-- ==== Sys2Proof/Word.lean ====
section
/-! DEFINITION. The words of the LA4-128 and the numbers of its table slots. -/

namespace Sys2Proof

/-- One byte of a frame, a response or a bus transfer (11, R177). -/
abbrev Byte := BitVec 8
/-- A 16-bit field: a term, a warn lead, a wait limit, an issue number or a tag. -/
abbrev Half := BitVec 16
/-- A 32-bit field: a key, a generation, a token, the count or a mark. -/
abbrev Word := BitVec 32
/-- A port index: 0 to 3 for AP0 to AP3 and 4 for MP (10). -/
abbrev PortIx := Fin 5
/-- One of the four SPI agent ports (10). -/
abbrev AgentPort := Fin 4
/-- A directory slot (R1). -/
abbrev DirSlot := Fin 64
/-- A lease slot (R22). -/
abbrev LeaseSlot := Fin 128
/-- A session slot (R83). -/
abbrev SessSlot := Fin 16
/-- The number of an enforcement profile (R122). -/
abbrev ProfileNo := Fin 8
/-- The number of a grant line (R136). -/
abbrev LineNo := Fin 16
/-- A notice priority or a port threshold, 0 to 7 (R144, R145). -/
abbrev Priority := Fin 8

end Sys2Proof
end

