-- ==== Sys2Proof/Syntax.lean ====
section
/-! DEFINITION. The commands and events of the LA4-128: one constructor for each row of
spec/opcode_table.json. -/

namespace Sys2Proof

/-- The levels that ESCL and ESDA read when an attempt starts (R127): true for high. -/
structure BusLines where
  escl : Bool
  esda : Bool
  deriving DecidableEq, Repr

/-- The two moments of a COMMAND or STATUS transaction that the part tells apart (R161, R162, R172):
the fall of chip select, at which the status byte is captured, and its rise, at which the frame is
judged. At the rise `mosi` is every whole byte received, the type byte first, and `loose` the number
of bits of a byte left incomplete. -/
inductive CommandPhase where
  | fall
  | rise (mosi : List Byte) (loose : Nat)
  deriving DecidableEq, Repr

/-- The three moments of a READ transaction (R161, R164): the fall of chip select, the completion of
the type byte, which decides what is sent, and the rise, by which `clocked` whole bytes have been
clocked after the type byte. -/
inductive ReadPhase where
  | fall
  | typed
  | rise (clocked : Nat)
  deriving DecidableEq, Repr

/-- The two moments of an attempt on the enforcement bus that goes well (R125, R128 to R130; log 11): the
byte at the place reached is complete, or the condition there is generated, and the next place of the
sequence begins; and, after the STOP, the end in success, with the levels that the next start reads. -/
inductive AttemptPhase where
  | moved
  | ended (lines : BusLines)
  deriving DecidableEq, Repr

/-- The two moments of a cold reset (R173; log 16): RESETN falls; and it rises, where `adr` is the level
of the ADR strap, true for high. A rise with no fall before it is the whole reset, as at power-on. -/
inductive ResetPhase where
  | fall
  | rise (adr : Bool)
  deriving DecidableEq, Repr

/-- The commands and events. The rows that the arbiter takes have no operands of their own: their
port and arguments are those of the frame that the arbiter takes (R168, R176; log 2). `lines` are the
levels of ESCL and ESDA, should an attempt start in the event (R127; log 12). -/
inductive Instr where
  /-- R162, R163: an SPI transaction that is not a READ. -/
  | commandTransaction (port : AgentPort) (phase : CommandPhase)
  /-- R164: an SPI READ. -/
  | readTransaction (port : AgentPort) (phase : ReadPhase)
  /-- R166: an I2C write to the 7-bit address `addr`, with `loose` bits of an incomplete byte. -/
  | mpWrite (addr : BitVec 7) (bytes : List Byte) (loose : Nat)
  /-- R167: an I2C read of `count` bytes, the status byte among them; `nackStop` says that the
  controller ended it with a not-acknowledge of its last byte and a STOP. -/
  | mpRead (addr : BitVec 7) (count : Nat) (nackStop : Bool)
  /-- R165: a transaction that carries a good RESET PORT frame ends at the port. -/
  | resetPort (port : PortIx)
  /-- R169: the arbiter takes a frame whose code is not a command code. -/
  | unknownCommand
  /-- R86, R87. -/
  | openSession
  /-- R89. -/
  | keepalive
  /-- R93, R94. -/
  | closeSession
  /-- R41. -/
  | acquire
  /-- R58. -/
  | release
  /-- R78. -/
  | renew
  /-- R38. -/
  | queryLease
  /-- R18. -/
  | queryResource
  /-- R70. -/
  | readClock
  /-- R148. -/
  | fetchNotice
  /-- R151. -/
  | ackNotice
  /-- R14. -/
  | defineResource
  /-- R15, R16. -/
  | amendResource
  /-- R17. -/
  | deleteResource
  /-- R105. -/
  | forceRevoke (lines : BusLines)
  /-- R115, R116. -/
  | clearFenceAccept
  /-- R115, R117. -/
  | clearFenceRetry (lines : BusLines)
  /-- R67. -/
  | clockStart
  /-- R68. -/
  | clockStop
  /-- R69. -/
  | setClock
  /-- R99. -/
  | purgeSession (lines : BusLines)
  /-- R123. -/
  | setProfile
  /-- R126. -/
  | setBus
  /-- R137. -/
  | setLine
  /-- R146. -/
  | setThreshold
  /-- R155. -/
  | readAlerts
  /-- R156. -/
  | ackAlert
  /-- R171. -/
  | warmReset (lines : BusLines)
  /-- R66: REFCLK completes `periods` periods, or fewer if the tick completes first (log 4). -/
  | tick (periods : Nat)
  /-- R28, R77. -/
  | warnMarkReached (lease : LeaseSlot)
  /-- R31. -/
  | holdExpiry (lease : LeaseSlot) (lines : BusLines)
  /-- R57. -/
  | waitExpiry (lease : LeaseSlot)
  /-- R90. -/
  | sessionWarning (session : SessSlot)
  /-- R96. -/
  | sessionLapse (session : SessSlot) (lines : BusLines)
  /-- R110, R128, R129. -/
  | attemptSuccess (phase : AttemptPhase)
  /-- R130: the byte written at place `at_` of the sequence is not acknowledged. -/
  | attemptNack (at_ : Nat) (lines : BusLines)
  /-- R129: the verify phase reads `readBack`. -/
  | readBackMismatch (readBack : Byte) (lines : BusLines)
  /-- R131: the attempt stalls at place `at_` of its sequence. -/
  | stall (at_ : Nat)
  /-- R132: recovery ends with a STOP after `pulses` pulses; `freed` says that ESDA reads high. -/
  | recoveryEnd (pulses : Nat) (freed : Bool) (lines : BusLines)
  /-- R132: ESCL does not rise in time, in the last of `pulses` pulses or for the STOP. -/
  | recoveryTimeout (pulses : Nat) (lines : BusLines)
  /-- R134: the abandoned attempt ends with a STOP after place `at_` of its sequence. -/
  | abandonedAttemptEnd (at_ : Nat) (lines : BusLines)
  /-- R173. -/
  | coldReset (phase : ResetPhase)
  /-- R178. -/
  | startupComplete
  /-- R165: the arbiter takes a RESET PORT frame whose argument length is not 0. -/
  | resetPortBadArg
  deriving DecidableEq, Repr

end Sys2Proof
end

