-- ==== Sys2Proof/Config.lean ====
section
/-! DEFINITION. What the manual leaves to the implementation: the free values of the model. -/

namespace Sys2Proof.Config

/-- FREE VALUE (log 5). The management port does not acknowledge a byte beyond the 27th of a write
(R166), and the manual does not say whether such a byte counts among the received bytes that R162
judges. No value is given here: a claim holds for both. -/
opaque countsUnacknowledged : Bool

end Sys2Proof.Config
end

