-- ==== Sys2Proof/Machine/State.lean ====
section
/-! DEFINITION. The state of the LA4-128: every piece of state that the manual gives its blocks, as
plain data, and its value after a cold reset. -/

namespace Sys2Proof.Machine

/-! ### The resource directory (chapter 1) -/

/-- The mode of a lease or of a request (R24, R41). -/
inductive LeaseMode where
  | shared | exclusive
  deriving DecidableEq, Repr

/-- The states of a defined entry (1.3). -/
inductive EntryState where
  | free | heldShared | heldExclusive | fencing | fenceFailed
  deriving DecidableEq, Repr

/-- The terms of an entry's leases (1.5). -/
structure Policy where
  term : Half
  warnLead : Half
  renewLimit : Byte
  deriving DecidableEq, Repr

/-- The held states that drive a bound grant line to its active level (R13). -/
inductive LineMode where
  | any | exclusive
  deriving DecidableEq, Repr

/-- A grant line with its line mode (R2, R13). -/
structure LineBinding where
  line : LineNo
  mode : LineMode
  deriving DecidableEq, Repr

/-- A defined resource entry (R2). Its slot is its place in the directory. -/
structure Entry where
  state : EntryState
  key : Word
  generation : Word
  current : Policy
  staged : Option Policy
  priority : Priority
  profile : Option ProfileNo
  line : Option LineBinding
  holders : Nat
  exclusiveHolder : Option LeaseSlot
  /-- The wait queue, oldest first (R49). -/
  queue : List LeaseSlot
  spentReported : Bool
  deriving DecidableEq, Repr

/-! ### The lease table (chapter 2) -/

/-- The states of a lease record (2.3). -/
inductive LeaseState where
  | waiting | active | warned | ended
  deriving DecidableEq, Repr

/-- The kinds of notice that a lease record holds (R144). -/
inductive NoticeKind where
  | granted | warning | ended
  deriving DecidableEq, Repr

/-- A pending notice of a lease record with the priority copied when it was raised (R32). -/
structure Notice where
  kind : NoticeKind
  priority : Priority
  deriving DecidableEq, Repr

/-- Why a record was ended (R24). -/
inductive EndCause where
  | expired | forced | waitExpired | spent
  deriving DecidableEq, Repr

/-- A lease record (R24). Its issue number is that of its slot. -/
structure LeaseRecord where
  state : LeaseState
  session : SessSlot
  resource : DirSlot
  mode : LeaseMode
  token : Option Word
  expiry : Option Word
  warn : Option Word
  wait : Option Word
  renewCount : Byte
  notice : Option Notice
  endCause : Option EndCause
  deriving DecidableEq, Repr

/-- A lease slot: its issue number, kept while the slot is VACANT (R22), and its record. -/
structure LeaseCell where
  issue : Half
  record : Option LeaseRecord
  deriving DecidableEq, Repr

/-! ### The lease clock (chapter 4) -/

/-- The states of the lease clock (R65). -/
inductive ClockState where
  | stopped | running
  deriving DecidableEq, Repr

/-- The lease clock (R65), with the REFCLK periods counted toward the next tick (R66 to R68). -/
structure Clock where
  count : Word
  divider : Fin 8
  state : ClockState
  periods : Nat
  deriving DecidableEq, Repr

/-! ### The session table (chapter 5) -/

/-- The states of a session (5.2); `opened` is the manual's OPEN. -/
inductive SessionState where
  | opened | warned | lapsed
  deriving DecidableEq, Repr

/-- How the notices of a session are retired (R84). -/
inductive NoticeMode where
  | fetchRetires | ackRequired
  deriving DecidableEq, Repr

/-- The kinds of notice that a session holds (R144). -/
inductive SessionNotice where
  | sessionWarning | sessionLapsed
  deriving DecidableEq, Repr

/-- Why a session lapsed (R84). -/
inductive LapseCause where
  | expired | purged
  deriving DecidableEq, Repr

/-- A session (R84). Its tag is that of its slot. -/
structure Session where
  state : SessionState
  port : PortIx
  term : Half
  warnLead : Half
  warnPriority : Priority
  noticeMode : NoticeMode
  quota : Nat
  expiry : Option Word
  warn : Option Word
  /-- The session's lease slots, oldest allocation first (R25). -/
  records : List LeaseSlot
  notice : Option SessionNotice
  lapseCause : Option LapseCause
  deriving DecidableEq, Repr

/-- A session slot: its tag, kept while the slot is VACANT (R83), and its session. -/
structure SessionCell where
  tag : Half
  session : Option Session
  deriving DecidableEq, Repr

/-! ### The fence unit and the enforcement bus (chapters 6 and 7) -/

/-- The payload forms of a profile (R122). -/
inductive PayloadForm where
  | fixed | generation | fixedThenGeneration
  deriving DecidableEq, Repr

/-- The contents of a valid enforcement profile (R122). -/
structure Profile where
  target : BitVec 7
  register : Byte
  form : PayloadForm
  fixedValue : Byte
  verify : Bool
  retries : Fin 4
  deriving DecidableEq, Repr

/-- The states of a fence job (R107). -/
inductive JobState where
  | queued | inFlight
  deriving DecidableEq, Repr

/-- A fence job (R107). -/
structure FenceJob where
  resource : DirSlot
  generation : Word
  profile : Profile
  attempts : Nat
  state : JobState
  deriving DecidableEq, Repr

/-- The states of the bus controller (R125). -/
inductive BusState where
  | idle | transfer | recovery
  deriving DecidableEq, Repr

/-- The bus speeds (R125). -/
inductive BusSpeed where
  | khz100 | khz400
  deriving DecidableEq, Repr

/-- What the controller puts on the bus: a condition, a byte written, a byte clocked in, or a clock
pulse of a recovery (R128, R129, R132). -/
inductive BusItem where
  | start | repeatedStart | write (value : Byte) | read | stop | pulse
  deriving DecidableEq, Repr

/-- The attempt record (R125). `position` is the place reached in the sequence of R128 and R129: 0 once
the START is generated, and the place of a byte once its first clock has been driven (log 11). -/
structure Attempt where
  target : BitVec 7
  register : Byte
  payload : List Byte
  verify : Bool
  expected : Byte
  position : Nat
  abandoned : Bool
  deriving DecidableEq, Repr

/-- The enforcement bus controller (R125). `runSpeed` is the speed of the attempt or the recovery in
progress (R126). `driven` is the model's own: what the attempt that ended last put on the bus, and the
recovery after it (log 11). -/
structure Bus where
  state : BusState
  speed : BusSpeed
  runSpeed : Option BusSpeed
  attempt : Option Attempt
  driven : List BusItem
  deriving DecidableEq, Repr

/-! ### Grant lines, notices and alerts (chapters 8 and 9) -/

/-- The polarity of a grant line (R136). -/
inductive Polarity where
  | activeHigh | activeLow
  deriving DecidableEq, Repr

/-- The configuration of a grant line (R136). -/
structure LineConfig where
  polarity : Polarity
  enabled : Bool
  deriving DecidableEq, Repr

/-- A held SESSION_LAPSED alert (R154). -/
structure LapseAlert where
  cause : LapseCause
  port : PortIx
  deriving DecidableEq, Repr

/-- The alert set (R154). -/
structure Alerts where
  fenceFailed : Vector Bool 64
  generationSpent : Vector Bool 64
  sessionLapsed : Vector (Option LapseAlert) 16
  deriving DecidableEq, Repr

/-! ### The ports and the arbiter (chapter 10) -/

/-- The status codes of responses (R170). -/
inductive Status where
  | ok | queued | none_ | badArg | unknownCommand | frameError | denied
  | noResource | exists_ | directoryFull | lineBound
  | tableFull | quota | sessionsFull
  | stale | notOwner | lapsed
  | duplicate | conflict | spent | notHeld | ended | limit
  | busy | badState | clockRunning
  deriving DecidableEq, Repr

/-- A command frame that a port has accepted (R161): its code and its argument bytes. -/
structure Frame where
  code : Byte
  args : List Byte
  deriving DecidableEq, Repr

/-- A response frame (R170, R177): the code answered, the status and the bytes of its fields. -/
structure Reply where
  code : Byte
  status : Status
  fields : List Byte
  deriving DecidableEq, Repr

/-- The state of a port with its held frame or held response (R158). -/
inductive PortState where
  | idle
  | pending (frame : Frame)
  | ready (reply : Reply)
  deriving DecidableEq, Repr

/-- An SPI transaction in progress: the status byte captured at the fall of chip select (R161),
whether its frame will be judged (R173, R178), and, once a READ's type byte is complete, the response
that it sends, absent when the port was not READY then (R164, R172). -/
structure Transaction where
  status : Byte
  judged : Bool
  sending : Option (Option Reply)
  deriving DecidableEq, Repr

/-- A port (R158, R159). `sent` is the model's own: the bytes the part sent in the port's last
transaction, absent when the manual does not give them (log 10). -/
structure Port where
  state : PortState
  rejected : Bool
  resetSeen : Bool
  transaction : Option Transaction
  sent : Option (List Byte)
  deriving DecidableEq, Repr

/-! ### The machine -/

/-- The state of the part. `pending` is the queue of events not yet taken, first in first out
(log 1); `mpAcknowledged` is the model's own: how many bytes of the last management write were
acknowledged, the address byte among them (log 10). -/
structure State where
  directory : Vector (Option Entry) 64
  leases : Vector LeaseCell 128
  sessions : Vector SessionCell 16
  clock : Clock
  fenceQueue : List FenceJob
  profiles : Vector (Option Profile) 8
  bus : Bus
  lines : Vector LineConfig 16
  thresholds : Vector Priority 5
  alerts : Alerts
  ports : Vector Port 5
  /-- The arbiter's last-served port index (R168). -/
  lastServed : PortIx
  /-- The ADR strap as read at the end of the last cold reset, true for high (R166). -/
  addressStrap : Bool
  /-- Whether the start-up time has passed, so that the ports accept transactions (R178). -/
  started : Bool
  /-- Whether RESETN is held low (R173). -/
  resetLow : Bool
  mpAcknowledged : Nat
  pending : List Instr
  deriving DecidableEq, Repr

/-- Why the part could stop. The manual gives no event that stops it, so nothing raises a fault. -/
inductive Fault where
  deriving DecidableEq, Repr

/-- Why a command has no meaning. -/
inductive Refusal where
  /-- Raised by an arm of exec whose command has no meaning yet. Safe: nothing is claimed of it. -/
  | notModelled (mnemonic : String)
  deriving DecidableEq, Repr

/-- A port after a cold reset (R173). -/
def Port.reset : Port :=
  { state := .idle, rejected := false, resetSeen := false, transaction := none, sent := none }

/-- The alert set after a cold or a warm reset (R154). -/
def Alerts.empty : Alerts :=
  { fenceFailed := .replicate 64 false
    generationSpent := .replicate 64 false
    sessionLapsed := .replicate 16 Option.none }

/-- The bus controller after a cold reset (R125, R135). -/
def Bus.reset : Bus :=
  { state := .idle, speed := .khz100, runSpeed := none, attempt := none, driven := [] }

/-- The lease clock after a cold reset (R71). -/
def Clock.reset : Clock :=
  { count := 0, divider := 2, state := .stopped, periods := 0 }

/-- The part right after a cold reset, with RESETN high again and the start-up time not yet passed
(R178, log 7): R19 directory, R39 leases, R71 clock, R101 sessions, R119 fence queue, R122 profiles,
R125 bus, R143 grant lines, R153 thresholds, R154 alerts, R173 ports and arbiter. The level of the ADR
strap is the board's; here it is low (log 6). -/
def State.reset : State :=
  { directory := .replicate 64 none
    leases := .replicate 128 { issue := 0, record := none }
    sessions := .replicate 16 { tag := 0, session := none }
    clock := .reset
    fenceQueue := []
    profiles := .replicate 8 none
    bus := .reset
    lines := .replicate 16 { polarity := .activeHigh, enabled := false }
    thresholds := .replicate 5 0
    alerts := .empty
    ports := .replicate 5 .reset
    lastServed := 4
    addressStrap := false
    started := false
    resetLow := false
    mpAcknowledged := 0
    pending := [] }

end Sys2Proof.Machine
end

