-- ==== Sys2Proof/Machine/Formats.lean ====
section
/-! DEFINITION. Chapter 11: byte order, the CRC-8, the codes of commands, states and statuses, and the
bytes of a response. -/

namespace Sys2Proof.Machine

/-! ### Byte order (R177) -/

/-- The 16-bit field whose more significant byte is `hi`. -/
def halfOf (hi lo : Byte) : Half := hi ++ lo

/-- The 32-bit field of four bytes, the most significant first. -/
def wordOf (b3 b2 b1 b0 : Byte) : Word := b3 ++ b2 ++ b1 ++ b0

/-- A 16-bit field as sent, the most significant byte first. -/
def halfBytes (h : Half) : List Byte := [h.extractLsb' 8 8, h.extractLsb' 0 8]

/-- A 32-bit field as sent, the most significant byte first. -/
def wordBytes (w : Word) : List Byte :=
  [w.extractLsb' 24 8, w.extractLsb' 16 8, w.extractLsb' 8 8, w.extractLsb' 0 8]

/-- A count, a position or a slot as a single byte. -/
def natByte (n : Nat) : Byte := BitVec.ofNat 8 n

/-- A yes or no byte (R176). -/
def boolByte (b : Bool) : Byte := if b then 1 else 0

/-- An optional 32-bit field: an absent one is sent as zeros (R177). -/
def optWordBytes (w : Option Word) : List Byte := wordBytes (w.getD 0)

/-- A byte of flags, the first in bit 0, every bit without a flag 0: the status byte, whose other bits R174
gives as 0, and the presence bytes (R177), whose bits that the tables do not name are 0 by log 25. -/
def presence (flags : List Bool) : Byte :=
  natByte (flags.foldr (fun b acc => 2 * acc + b.toNat) 0)

/-! ### The CRC-8 (R175) -/

/-- One shift of the CRC register. -/
def crcShift (r : Byte) : Byte := if r.msb then (r <<< 1) ^^^ 0x07 else r <<< 1

/-- Eight shifts after a byte is XORed in. -/
def crcByte (r b : Byte) : Byte :=
  crcShift (crcShift (crcShift (crcShift (crcShift (crcShift (crcShift (crcShift (r ^^^ b))))))))

/-- The CRC-8 of a string of bytes. -/
def crc8 (bytes : List Byte) : Byte := bytes.foldl crcByte 0xFF

/-! ### Codes -/

namespace Code
/-- The command codes of 11.3. -/
def openSession : Byte := 0x01
def keepalive : Byte := 0x02
def closeSession : Byte := 0x03
def acquire : Byte := 0x04
def release : Byte := 0x05
def renew : Byte := 0x06
def queryLease : Byte := 0x07
def queryResource : Byte := 0x08
def readClock : Byte := 0x09
def fetchNotice : Byte := 0x0A
def ackNotice : Byte := 0x0B
def resetPort : Byte := 0x0F
def defineResource : Byte := 0x21
def amendResource : Byte := 0x22
def deleteResource : Byte := 0x23
def forceRevoke : Byte := 0x24
def clearFence : Byte := 0x25
def clockStart : Byte := 0x28
def clockStop : Byte := 0x29
def setClock : Byte := 0x2A
def purgeSession : Byte := 0x2C
def setProfile : Byte := 0x30
def setBus : Byte := 0x31
def setLine : Byte := 0x34
def setThreshold : Byte := 0x38
def readAlerts : Byte := 0x39
def ackAlert : Byte := 0x3A
def warmReset : Byte := 0x3F
end Code

/-- Every command code of 11.3 (R169). -/
def commandCodes : List Byte :=
  [Code.openSession, Code.keepalive, Code.closeSession, Code.acquire, Code.release, Code.renew,
   Code.queryLease, Code.queryResource, Code.readClock, Code.fetchNotice, Code.ackNotice,
   Code.resetPort, Code.defineResource, Code.amendResource, Code.deleteResource, Code.forceRevoke,
   Code.clearFence, Code.clockStart, Code.clockStop, Code.setClock, Code.purgeSession,
   Code.setProfile, Code.setBus, Code.setLine, Code.setThreshold, Code.readAlerts, Code.ackAlert,
   Code.warmReset]

/-- The type bytes of an SPI transaction (R174). -/
def typeCommand : Byte := 0xC1
def typeRead : Byte := 0xA5

/-- The status codes of 11.4. -/
def Status.code : Status → Byte
  | .ok => 0x00
  | .queued => 0x01
  | .none_ => 0x02
  | .badArg => 0x10
  | .unknownCommand => 0x11
  | .frameError => 0x12
  | .denied => 0x13
  | .noResource => 0x20
  | .exists_ => 0x21
  | .directoryFull => 0x22
  | .lineBound => 0x23
  | .tableFull => 0x30
  | .quota => 0x31
  | .sessionsFull => 0x32
  | .stale => 0x40
  | .notOwner => 0x41
  | .lapsed => 0x42
  | .duplicate => 0x50
  | .conflict => 0x51
  | .spent => 0x52
  | .notHeld => 0x53
  | .ended => 0x54
  | .limit => 0x55
  | .busy => 0x60
  | .badState => 0x61
  | .clockRunning => 0x62

/-- R176. -/
def LeaseMode.code : LeaseMode → Byte
  | .shared => 0
  | .exclusive => 1

/-- R176. -/
def LineMode.code : LineMode → Byte
  | .any => 0
  | .exclusive => 1

/-- R176. -/
def Polarity.code : Polarity → Byte
  | .activeHigh => 0
  | .activeLow => 1

/-- R176. -/
def PayloadForm.code : PayloadForm → Byte
  | .fixed => 0
  | .generation => 1
  | .fixedThenGeneration => 2

/-- R176. -/
def BusSpeed.code : BusSpeed → Byte
  | .khz100 => 1
  | .khz400 => 4

/-- R177. -/
def EntryState.code : EntryState → Byte
  | .free => 0
  | .heldShared => 1
  | .heldExclusive => 2
  | .fencing => 3
  | .fenceFailed => 4

/-- R177. -/
def LeaseState.code : LeaseState → Byte
  | .waiting => 1
  | .active => 2
  | .warned => 3
  | .ended => 4

/-- R177. -/
def NoticeKind.code : NoticeKind → Byte
  | .granted => 1
  | .warning => 2
  | .ended => 3

/-- R177. -/
def SessionNotice.code : SessionNotice → Byte
  | .sessionWarning => 4
  | .sessionLapsed => 5

/-- R177: 0 for an absent end cause. -/
def EndCause.code : Option EndCause → Byte
  | none => 0
  | some .expired => 1
  | some .forced => 2
  | some .waitExpired => 3
  | some .spent => 4

/-- R177: 0 for an absent lapse cause. -/
def LapseCause.code : Option LapseCause → Byte
  | none => 0
  | some .expired => 1
  | some .purged => 2

/-- R177. -/
def ClockState.code : ClockState → Byte
  | .stopped => 0
  | .running => 1

/-! ### Responses -/

/-- The response frame (R177). -/
def Reply.bytes (r : Reply) : List Byte := r.code :: r.status.code :: r.fields

/-- What a READ sends after the status byte (R164, R174): the length, the response frame and the CRC-8
over both, or a length of 0 with nothing after it. -/
def responseStream : Option Reply → List Byte
  | none => [0]
  | some r =>
    let covered := natByte r.bytes.length :: r.bytes
    covered ++ [crc8 covered]

/-- The first `n` bytes of a stream that goes on with 0xFF (R161, R174). -/
def padded (stream : List Byte) (n : Nat) : List Byte :=
  (stream ++ List.replicate n 0xFF).take n

/-- The bytes of a command frame (11.2): code, length, arguments, CRC-8. -/
def Frame.bytes (f : Frame) : List Byte :=
  let covered := f.code :: natByte f.args.length :: f.args
  covered ++ [crc8 covered]

/-- The frame that received bytes spell, or none when they are malformed (R162): fewer than two bytes,
a length above 24, a number of bytes other than the length plus three, an incomplete byte, or a CRC
that differs. -/
def parseFrame (bytes : List Byte) (loose : Nat) : Option Frame :=
  match bytes with
  | code :: len :: rest =>
    if len.toNat ≤ 24 ∧ rest.length = len.toNat + 1 ∧ loose = 0 ∧
        crc8 bytes.dropLast = rest.getLast?.getD 0 then
      some { code := code, args := rest.dropLast }
    else none
  | _ => none

end Sys2Proof.Machine
end

