-- ==== Sys2Proof/Machine/Operands.lean ====
section
/-! DEFINITION. The arguments of the commands, decoded from the bytes of a frame (R176). -/

namespace Sys2Proof.Machine

/-- The argument byte at place `i`. The arbiter has checked the argument length (R169), so the place
exists wherever a command reads it. -/
def argByte (args : List Byte) (i : Nat) : Byte := args.getD i 0

/-- The 16-bit argument that begins at place `i`. -/
def argHalf (args : List Byte) (i : Nat) : Half := halfOf (argByte args i) (argByte args (i + 1))

/-- The 32-bit argument that begins at place `i`. -/
def argWord (args : List Byte) (i : Nat) : Word :=
  wordOf (argByte args i) (argByte args (i + 1)) (argByte args (i + 2)) (argByte args (i + 3))

/-- A byte as a number below `n`, or none when it is out of range. -/
def ranged (n : Nat) (b : Byte) : Option (Fin n) :=
  if h : b.toNat < n then some ⟨b.toNat, h⟩ else none

def decodeMode (b : Byte) : Option LeaseMode :=
  if b = 0 then some .shared else if b = 1 then some .exclusive else none

def decodeNoticeMode (b : Byte) : Option NoticeMode :=
  if b = 0 then some .fetchRetires else if b = 1 then some .ackRequired else none

def decodeLineMode (b : Byte) : Option LineMode :=
  if b = 0 then some .any else if b = 1 then some .exclusive else none

def decodePolarity (b : Byte) : Option Polarity :=
  if b = 0 then some .activeHigh else if b = 1 then some .activeLow else none

def decodeBool (b : Byte) : Option Bool :=
  if b = 0 then some false else if b = 1 then some true else none

def decodeForm (b : Byte) : Option PayloadForm :=
  if b = 0 then some .fixed else if b = 1 then some .generation
  else if b = 2 then some .fixedThenGeneration else none

def decodeSpeed (b : Byte) : Option BusSpeed :=
  if b = 1 then some .khz100 else if b = 4 then some .khz400 else none

/-- A profile argument: 0xFF names none. The outer none is a number above 7. -/
def decodeProfileNo (b : Byte) : Option (Option ProfileNo) :=
  if b = 0xFF then some none else (ranged 8 b).map some

/-- A line argument with its line mode byte: 0xFF names none, and the mode byte is then not examined.
The outer none is a line above 15 or a mode out of range. -/
def decodeLine (line mode : Byte) : Option (Option LineBinding) :=
  if line = 0xFF then some none
  else match ranged 16 line, decodeLineMode mode with
    | some l, some m => some (some { line := l, mode := m })
    | _, _ => none

/-- A session handle as it stands in a frame (R83). -/
structure SessionHandle where
  slot : Byte
  tag : Half
  deriving DecidableEq, Repr

/-- A lease handle as it stands in a frame (R23). -/
structure LeaseHandle where
  slot : Byte
  issue : Half
  deriving DecidableEq, Repr

def argSession (args : List Byte) : SessionHandle := { slot := argByte args 0, tag := argHalf args 1 }

/-- The lease handle that begins at place `i`. -/
def argLease (args : List Byte) (i : Nat) : LeaseHandle :=
  { slot := argByte args i, issue := argHalf args (i + 1) }

/-- The arguments of OPEN SESSION that pass step 1 of R86. -/
structure OpenArgs where
  term : Half
  warnLead : Half
  warnPriority : Priority
  noticeMode : NoticeMode
  quota : Nat
  deriving DecidableEq, Repr

/-- R86 step 1, R87: a quota of 0 selects 16. -/
def decodeOpen (args : List Byte) : Option OpenArgs :=
  let quota := (argByte args 6).toNat
  match ranged 8 (argByte args 4), decodeNoticeMode (argByte args 5) with
  | some prio, some mode =>
    if argHalf args 0 = 0 ∨ 128 < quota then none
    else some
      { term := argHalf args 0
        warnLead := argHalf args 2
        warnPriority := prio
        noticeMode := mode
        quota := if quota = 0 then 16 else quota }
  | _, _ => none

/-- The arguments of DEFINE RESOURCE that are in range (R14 step 1, but for the profile's validity). -/
structure DefineArgs where
  key : Word
  policy : Policy
  priority : Priority
  profile : Option ProfileNo
  line : Option LineBinding
  deriving DecidableEq, Repr

/-- R14 step 1, but for the profile's validity. -/
def decodeDefine (args : List Byte) : Option DefineArgs :=
  match ranged 8 (argByte args 9), decodeProfileNo (argByte args 10),
      decodeLine (argByte args 11) (argByte args 12) with
  | some prio, some profile, some line =>
    if argWord args 0 = 0 ∨ argHalf args 4 = 0 then none
    else some
      { key := argWord args 0
        policy := { term := argHalf args 4, warnLead := argHalf args 6, renewLimit := argByte args 8 }
        priority := prio
        profile := profile
        line := line }
  | _, _, _ => none

/-- The named fields of AMEND RESOURCE: none for a field that is not named (R15). A named profile or
line of none removes the binding. -/
structure AmendArgs where
  term : Option Half
  warnLead : Option Half
  renewLimit : Option Byte
  priority : Option Priority
  profile : Option (Option ProfileNo)
  line : Option (Option LineBinding)
  deriving DecidableEq, Repr

/-- A field of AMEND RESOURCE: absent when its bit does not name it, and then not examined; refused
(the outer none) when it is named and out of range. -/
def namedField {α : Type} (named : Bool) (value : Option α) : Option (Option α) :=
  if named then value.map some else some none

/-- R15 step 2, but for the profile's validity. Bits 6 and 7 of the named-field byte are refused (R176). -/
def decodeAmend (args : List Byte) : Option AmendArgs :=
  let bits := argByte args 4
  let term := if argHalf args 5 = 0 then none else some (argHalf args 5)
  match namedField (bits.getLsbD 0) term,
      namedField (bits.getLsbD 3) (ranged 8 (argByte args 10)),
      namedField (bits.getLsbD 4) (decodeProfileNo (argByte args 11)),
      namedField (bits.getLsbD 5) (decodeLine (argByte args 12) (argByte args 13)) with
  | some term, some prio, some profile, some line =>
    if bits.getLsbD 6 || bits.getLsbD 7 then none
    else some
      { term := term
        warnLead := if bits.getLsbD 1 then some (argHalf args 7) else none
        renewLimit := if bits.getLsbD 2 then some (argByte args 9) else none
        priority := prio
        profile := profile
        line := line }
  | _, _, _, _ => none

/-- Whether an AMEND RESOURCE names a policy field (R9). -/
def AmendArgs.namesPolicy (a : AmendArgs) : Bool :=
  a.term.isSome || a.warnLead.isSome || a.renewLimit.isSome

/-- The policy with the named fields replaced (R9). -/
def AmendArgs.amendPolicy (a : AmendArgs) (p : Policy) : Policy :=
  { term := a.term.getD p.term
    warnLead := a.warnLead.getD p.warnLead
    renewLimit := a.renewLimit.getD p.renewLimit }

/-- The contents of a valid profile as SET PROFILE gives them, or none when a field is refused by step 2
of R123. -/
def decodeProfile (args : List Byte) : Option Profile :=
  let target := argByte args 2
  match decodeForm (argByte args 4), decodeBool (argByte args 6), ranged 4 (argByte args 7) with
  | some form, some verify, some retries =>
    if target < 0x08 ∨ 0x77 < target ∨ (verify = true ∧ form ≠ .fixed) then none
    else some
      { target := target.extractLsb' 0 7
        register := argByte args 3
        form := form
        fixedValue := argByte args 5
        verify := verify
        retries := retries }
  | _, _, _ => none

/-- The eight bytes of SET PROFILE's answer for profile `n` as it stands (11.4). -/
def profileBytes (n : ProfileNo) (p : Option Profile) : List Byte :=
  natByte n :: match p with
    | none => [0, 0, 0, 0, 0, 0, 0]
    | some p =>
      [1, p.target.setWidth 8, p.register, p.form.code, p.fixedValue, boolByte p.verify,
        natByte p.retries]

/-- A kind of alert with its slot, as ACK ALERT names it (R156). -/
inductive AlertName where
  | fenceFailed (slot : DirSlot)
  | generationSpent (slot : DirSlot)
  | sessionLapsed (slot : SessSlot)
  deriving DecidableEq, Repr

/-- R156, R176: the alert that ACK ALERT names, or none when the kind or the slot is out of range. -/
def decodeAlert (kind slot : Byte) : Option AlertName :=
  if kind = 1 then (ranged 64 slot).map .fenceFailed
  else if kind = 2 then (ranged 64 slot).map .generationSpent
  else if kind = 3 then (ranged 16 slot).map .sessionLapsed
  else none

end Sys2Proof.Machine
end

