-- ==== Sys2Proof/Machine/Ops.lean ====
section
/-! DEFINITION. The named operations over the tables: reading and writing a slot, marks, grants, the
grant check, ending and freeing records, revocation, fence jobs and attempts. -/

namespace Sys2Proof.Machine

/-! ### Slots -/

/-- A table with slot `i` replaced. -/
def put {α : Type} {n : Nat} (v : Vector α n) (i : Fin n) (x : α) : Vector α n := v.set i.val x i.isLt

def State.entry (s : State) (i : DirSlot) : Option Entry := s.directory.get i

def State.setEntry (s : State) (i : DirSlot) (e : Option Entry) : State :=
  { s with directory := put s.directory i e }

/-- The entry of slot `i` changed by `f`; a VACANT slot stays VACANT. -/
def State.modifyEntry (s : State) (i : DirSlot) (f : Entry → Entry) : State :=
  match s.entry i with
  | none => s
  | some e => s.setEntry i (some (f e))

def State.lease (s : State) (l : LeaseSlot) : LeaseCell := s.leases.get l

def State.record (s : State) (l : LeaseSlot) : Option LeaseRecord := (s.lease l).record

def State.setLease (s : State) (l : LeaseSlot) (c : LeaseCell) : State :=
  { s with leases := put s.leases l c }

/-- Lease slot `l` with its record replaced and its issue number kept. -/
def State.setRecord (s : State) (l : LeaseSlot) (r : Option LeaseRecord) : State :=
  s.setLease l { s.lease l with record := r }

def State.sessionCell (s : State) (i : SessSlot) : SessionCell := s.sessions.get i

def State.session (s : State) (i : SessSlot) : Option Session := (s.sessionCell i).session

def State.setSessionCell (s : State) (i : SessSlot) (c : SessionCell) : State :=
  { s with sessions := put s.sessions i c }

/-- Session slot `i` with its session replaced and its tag kept (R83). -/
def State.setSession (s : State) (i : SessSlot) (x : Option Session) : State :=
  s.setSessionCell i { s.sessionCell i with session := x }

/-- The session of slot `i` changed by `f`; a VACANT slot stays VACANT. -/
def State.modifySession (s : State) (i : SessSlot) (f : Session → Session) : State :=
  match s.session i with
  | none => s
  | some x => s.setSession i (some (f x))

def State.port (s : State) (p : PortIx) : Port := s.ports.get p

def State.setPort (s : State) (p : PortIx) (x : Port) : State := { s with ports := put s.ports p x }

/-- The lowest-numbered slot that satisfies `f`. -/
def lowest (n : Nat) (f : Fin n → Bool) : Option (Fin n) := (List.finRange n).find? f

/-- The defined entry that holds `key`, with its slot (R1). -/
def State.findKey (s : State) (key : Word) : Option (DirSlot × Entry) :=
  (List.finRange 64).findSome? fun i =>
    match s.entry i with
    | some e => if e.key = key then some (i, e) else none
    | none => none

/-- The defined entry that holds grant line `n`, with its slot and line mode (R13, R136). -/
def State.findLine (s : State) (n : LineNo) : Option (DirSlot × Entry × LineMode) :=
  (List.finRange 64).findSome? fun i =>
    match s.entry i with
    | some e => e.line.bind fun b => if b.line = n then some (i, e, b.mode) else none
    | none => none

/-- The contents of the profile that an entry's binding names (R12). The directory commands let an
entry name a valid profile only, and SET PROFILE does not invalidate a named one (log 15). -/
def State.profileOf (s : State) (e : Entry) : Option Profile := e.profile.bind fun n => s.profiles.get n

/-! ### Marks (R72, R73, R76, R88) -/

/-- The count plus an offset, modulo 2^32 (R72). -/
def markAt (count : Word) (offset : Half) : Word := count + offset.setWidth 32

/-- The warn mark of a term and warn lead: present when 0 < L < T (R76, R88). -/
def warnMark (count : Word) (term lead : Half) : Option Word :=
  if lead = 0 ∨ term ≤ lead then none else some (markAt count (term - lead))

/-- Whether a mark is reached at the present count: the clock is RUNNING and the count less the mark,
modulo 2^32, is below 2^31 (R73). -/
def State.reached (s : State) (mark : Option Word) : Bool :=
  match s.clock.state, mark with
  | .running, some m => (s.clock.count - m) < 0x80000000
  | _, _ => false

/-- The marks of a lease slot. -/
def LeaseCell.marks (c : LeaseCell) : List (Option Word) :=
  match c.record with
  | none => []
  | some r => [r.expiry, r.warn, r.wait]

/-- The marks of a session slot. -/
def SessionCell.marks (c : SessionCell) : List (Option Word) :=
  match c.session with
  | none => []
  | some x => [x.expiry, x.warn]

/-- Whether some mark is reached at the present count and its event has not been taken yet (R73). -/
def State.markDue (s : State) : Bool :=
  s.leases.toList.any (fun c => c.marks.any s.reached) ||
    s.sessions.toList.any (fun c => c.marks.any s.reached)

/-! ### Alerts (R154) -/

def State.raiseFenceFailed (s : State) (i : DirSlot) : State :=
  { s with alerts := { s.alerts with fenceFailed := put s.alerts.fenceFailed i true } }

def State.raiseSpent (s : State) (i : DirSlot) : State :=
  { s with alerts := { s.alerts with generationSpent := put s.alerts.generationSpent i true } }

/-- R96, R99: an alert already held takes the new cause and port. -/
def State.raiseLapsed (s : State) (i : SessSlot) (a : LapseAlert) : State :=
  { s with alerts := { s.alerts with sessionLapsed := put s.alerts.sessionLapsed i (some a) } }

/-! ### Records and entries -/

/-- A record that holds its resource (2.3). -/
def LeaseRecord.live (r : LeaseRecord) : Bool := r.state = .active || r.state = .warned

/-- Spent: the generation cannot issue another exclusive token (R7). -/
def Entry.spent (e : Entry) : Bool := e.generation = 0xFFFFFFFE || e.generation = 0xFFFFFFFF

/-- R10: a staged policy present replaces the current one. -/
def Entry.settlePolicy (e : Entry) : Entry :=
  { e with current := e.staged.getD e.current, staged := none }

/-- The entry as it enters FREE, with no holder left and its staged policy applied (R5, R10). -/
def Entry.enterFree (e : Entry) : Entry :=
  { e.settlePolicy with state := .free, holders := 0, exclusiveHolder := none }

/-- The entry as it enters FENCING, with no holder left and its staged policy applied (R10, R104). -/
def Entry.enterFencing (e : Entry) : Entry :=
  { e.settlePolicy with state := .fencing, holders := 0, exclusiveHolder := none }

/-- The entry after a grant to lease slot `l` (R4, R6). -/
def Entry.granted (e : Entry) (l : LeaseSlot) (mode : LeaseMode) : Entry :=
  match mode with
  | .shared => { e with state := .heldShared, holders := e.holders + 1 }
  | .exclusive =>
    { e with
      state := .heldExclusive
      holders := e.holders + 1
      generation := e.generation + 1
      exclusiveHolder := some l }

/-- The record after a grant on an entry that now stands as `e` (R27, R76): the token is the entry's
generation after the grant. -/
def LeaseRecord.granted (r : LeaseRecord) (e : Entry) (count : Word) (notice : Option Notice) :
    LeaseRecord :=
  { r with
    state := .active
    token := some e.generation
    expiry := some (markAt count e.current.term)
    warn := warnMark count e.current.term e.current.warnLead
    wait := none
    renewCount := 0
    notice := notice }

/-- The record as it enters ENDED, its ENDED notice at priority `p` (R29, R31, R32). -/
def LeaseRecord.endedWith (r : LeaseRecord) (cause : EndCause) (p : Priority) : LeaseRecord :=
  { r with
    state := .ended
    expiry := none
    warn := none
    wait := none
    notice := some { kind := .ended, priority := p }
    endCause := some cause }

/-- The notice priority of directory slot `i` (R11). -/
def State.priorityOf (s : State) (i : DirSlot) : Priority := ((s.entry i).map Entry.priority).getD 0

/-- Lease slot `l` ended with a cause, as far as the record goes (R29, R31). -/
def State.endRecord (s : State) (l : LeaseSlot) (cause : EndCause) : State :=
  match s.record l with
  | none => s
  | some r => s.setRecord l (some (r.endedWith cause (s.priorityOf r.resource)))

/-- The first SPENT refusal or ending on entry `i`: the alert is raised and spent reported set (R7). -/
def State.reportSpent (s : State) (i : DirSlot) : State :=
  match s.entry i with
  | none => s
  | some e =>
    if e.spentReported then s
    else (s.setEntry i (some { e with spentReported := true })).raiseSpent i

/-! ### The grant check (3.4) -/

/-- One grant made by the grant check: `e` is the entry with the head already taken out of its queue,
`r` the head's record (R54). -/
def State.grantHead (s : State) (i : DirSlot) (e : Entry) (l : LeaseSlot) (r : LeaseRecord) : State :=
  let e' := e.granted l r.mode
  (s.setEntry i (some e')).setRecord l
    (some (r.granted e' s.clock.count (some { kind := .granted, priority := e.priority })))

/-- The end of a spent EXCLUSIVE head: `e` is the entry with the head already taken out of its queue
(R55). -/
def State.endSpentHead (s : State) (i : DirSlot) (e : Entry) (l : LeaseSlot) : State :=
  ((s.setEntry i (some e)).endRecord l .spent).reportSpent i

/-- The steps of the grant check over the queue of entry `i`, head first (R53, R56). A slot in the
queue without a record, which R26 rules out, is taken out (log 15). -/
def grantSteps (i : DirSlot) : List LeaseSlot → State → State
  | [], s => s
  | l :: rest, s =>
    match s.entry i with
    | none => s
    | some e =>
      if e.state = .free ∨ e.state = .heldShared then
        match s.record l with
        | none => grantSteps i rest (s.setEntry i (some { e with queue := rest }))
        | some r =>
          match r.mode with
          | .shared => grantSteps i rest (s.grantHead i { e with queue := rest } l r)
          | .exclusive =>
            if e.spent then grantSteps i rest (s.endSpentHead i { e with queue := rest } l)
            else if e.state = .free then s.grantHead i { e with queue := rest } l r
            else s
      else s

/-- The grant check on entry `i` (R52, R53). -/
def State.grantCheck (s : State) (i : DirSlot) : State :=
  match s.entry i with
  | none => s
  | some e => grantSteps i e.queue s

/-! ### Leaving an entry -/

/-- The entry drops the live record `l` as a holder (R5). -/
def State.dropHolder (s : State) (i : DirSlot) (l : LeaseSlot) : State :=
  match s.entry i with
  | none => s
  | some e =>
    if e.holders ≤ 1 then (s.setEntry i (some e.enterFree)).grantCheck i
    else
      s.setEntry i (some
        { e with
          holders := e.holders - 1
          exclusiveHolder := if e.exclusiveHolder = some l then none else e.exclusiveHolder })

/-- The record `l` leaves the wait queue of entry `i`, and the grant check runs (R52, R57, R60). -/
def State.leaveQueue (s : State) (i : DirSlot) (l : LeaseSlot) : State :=
  (s.modifyEntry i fun e => { e with queue := e.queue.filter (· ≠ l) }).grantCheck i

/-- Lease slot `l` goes VACANT, its issue kept, and leaves its session's record list (R25, R34). -/
def State.vacateRecord (s : State) (l : LeaseSlot) : State :=
  match s.record l with
  | none => s
  | some r =>
    (s.modifySession r.session fun x => { x with records := x.records.filter (· ≠ l) }).setRecord l none

/-- A record freed without a revocation, with its effects at its resource (R34). -/
def State.freeRecord (s : State) (l : LeaseSlot) : State :=
  match s.record l with
  | none => s
  | some r =>
    match r.state with
    | .waiting => (s.vacateRecord l).leaveQueue r.resource l
    | .active => (s.vacateRecord l).dropHolder r.resource l
    | .warned => (s.vacateRecord l).dropHolder r.resource l
    | .ended => s.vacateRecord l

/-! ### The fence queue and the start of an attempt (R107 to R112, R127, R128) -/

/-- A fresh job for entry `e` of slot `i` with profile `p` (R107). -/
def freshJob (i : DirSlot) (e : Entry) (p : Profile) : FenceJob :=
  { resource := i, generation := e.generation, profile := p, attempts := 0, state := .queued }

/-- The payload bytes of a job (R128). -/
def FenceJob.payload (j : FenceJob) : List Byte :=
  match j.profile.form with
  | .fixed => [j.profile.fixedValue]
  | .generation => wordBytes j.generation
  | .fixedThenGeneration => j.profile.fixedValue :: wordBytes j.generation

/-- The attempt record filled from a job (R125, R127). -/
def FenceJob.attempt (j : FenceJob) : Attempt :=
  { target := j.profile.target
    register := j.profile.register
    payload := j.payload
    verify := j.profile.verify
    expected := j.profile.fixedValue
    position := 0
    abandoned := false }

/-- The address byte of a target for a write: twice the address (R128). -/
def addressWrite (target : BitVec 7) : Byte := target ++ 0#1

/-- The address byte of a target for a read: twice the address plus one (R129). -/
def addressRead (target : BitVec 7) : Byte := target ++ 1#1

/-- The whole sequence of an attempt on the bus: the write phase (R128), the verify phase where the
record says so (R129), and the STOP. -/
def Attempt.sequence (a : Attempt) : List BusItem :=
  [.start, .write (addressWrite a.target), .write a.register] ++ a.payload.map .write ++
    (if a.verify then
      [.repeatedStart, .write (addressWrite a.target), .write a.register,
       .repeatedStart, .write (addressRead a.target), .read]
    else []) ++ [.stop]

/-- What the attempt has driven when its STOP is still to come: everything to the place reached. -/
def Attempt.driven (a : Attempt) : List BusItem := a.sequence.dropLast.take (a.position + 1)

/-- The head job's attempt has failed (R111, R112): with attempts left it stays at the head, QUEUED;
otherwise it is removed, its entry goes from FENCING to FENCE_FAILED and the alert is raised. -/
def State.failHead (s : State) : State :=
  match s.fenceQueue with
  | [] => s
  | j :: rest =>
    if j.attempts < 1 + j.profile.retries.val then
      { s with fenceQueue := { j with state := .queued } :: rest }
    else
      (({ s with fenceQueue := rest } : State).modifyEntry j.resource fun e =>
        if e.state = .fencing then { e with state := .fenceFailed } else e).raiseFenceFailed j.resource

/-- The head job starts an attempt when it is QUEUED and the bus is IDLE (R109). The controller fills
the attempt record and reads both lines: if both are high the attempt is on the bus; otherwise it fails
at once, with no START, and RECOVERY begins (R127). -/
def State.startAttempt (s : State) (lines : BusLines) : State :=
  match s.bus.state, s.fenceQueue with
  | .idle, j :: rest =>
    if j.state = .queued then
      let queue := { j with attempts := j.attempts + 1, state := .inFlight } :: rest
      let bus := { s.bus with runSpeed := some s.bus.speed, attempt := some j.attempt }
      if lines.escl && lines.esda then
        { s with fenceQueue := queue, bus := { bus with state := .transfer } }
      else
        ({ s with fenceQueue := queue, bus := { bus with state := .recovery, driven := [] } } :
          State).failHead
    else s
  | _, _ => s

/-- A job is appended at the tail, and starts at once if it is the head and the bus is IDLE (R108,
R109). -/
def State.appendJob (s : State) (j : FenceJob) (lines : BusLines) : State :=
  ({ s with fenceQueue := s.fenceQueue ++ [j] } : State).startAttempt lines

/-! ### Revocation (6.1) -/

/-- The revocation of a live EXCLUSIVE record at its resource (R104). -/
def State.revokeExclusive (s : State) (i : DirSlot) (lines : BusLines) : State :=
  match s.entry i with
  | none => s
  | some e =>
    let advanced := { e with generation := e.generation + 1 }
    match s.profileOf e with
    | some p =>
      (s.setEntry i (some advanced.enterFencing)).appendJob (freshJob i advanced p) lines
    | none => (s.setEntry i (some advanced.enterFree)).grantCheck i

/-- What a revoked record does at its resource (R103). -/
def State.revokeAt (s : State) (r : LeaseRecord) (l : LeaseSlot) (lines : BusLines) : State :=
  match r.mode with
  | .shared => s.dropHolder r.resource l
  | .exclusive => s.revokeExclusive r.resource lines

/-- A live record revoked by expiry or by FORCE REVOKE: ENDED, then its resource (R31, R103). -/
def State.revokeEnding (s : State) (l : LeaseSlot) (cause : EndCause) (lines : BusLines) : State :=
  match s.record l with
  | none => s
  | some r => (s.endRecord l cause).revokeAt r l lines

/-- One record of the teardown walk of a lapse (R95): a live EXCLUSIVE record is revoked and freed in
one, every other record is freed as by R34. -/
def State.teardownRecord (lines : BusLines) (s : State) (l : LeaseSlot) : State :=
  match s.record l with
  | none => s
  | some r =>
    if r.live && r.mode = .exclusive then (s.vacateRecord l).revokeExclusive r.resource lines
    else s.freeRecord l

/-- The teardown walk of a lapse over a record list, oldest allocation first (R95). -/
def State.teardown (s : State) (records : List LeaseSlot) (lines : BusLines) : State :=
  records.foldl (State.teardownRecord lines) s

/-- The walk of CLOSE SESSION over a record list, oldest allocation first (R93). -/
def State.releaseAll (s : State) (records : List LeaseSlot) : State :=
  records.foldl State.freeRecord s

/-- The marks of session `i` are removed (R96 action 1, R99). -/
def State.dropSessionMarks (s : State) (i : SessSlot) : State :=
  s.modifySession i fun x => { x with expiry := none, warn := none }

/-! ### Handle checks (R37) -/

/-- Steps 2 to 4 of R37 for session slot `i` and a command from port `p`: the session, or the status
that answers the first failure. `lapsedToo` says that the command is one that step 4 lets pass. -/
def State.checkSession (s : State) (p : PortIx) (lapsedToo : Bool) (i : SessSlot) (tag : Half) :
    Except Status Session :=
  match s.session i with
  | none => .error .stale
  | some x =>
    if tag ≠ (s.sessionCell i).tag then .error .stale
    else if x.port ≠ p then .error .notOwner
    else if x.state = .lapsed ∧ lapsedToo = false then .error .lapsed
    else .ok x

/-- Steps 5 and 6 of R37 for lease slot `l` under session slot `i`. -/
def State.checkLease (s : State) (i : SessSlot) (l : LeaseSlot) (issue : Half) :
    Except Status LeaseRecord :=
  match s.record l with
  | none => .error .stale
  | some r =>
    if issue ≠ (s.lease l).issue then .error .stale
    else if r.session ≠ i then .error .notOwner
    else .ok r

/-- R37 for a command that carries a session handle alone. -/
def State.checkHandle (s : State) (p : PortIx) (lapsedToo : Bool) (h : SessionHandle) :
    Except Status (SessSlot × Session) :=
  match ranged 16 h.slot with
  | none => .error .badArg
  | some i =>
    match s.checkSession p lapsedToo i h.tag with
    | .error e => .error e
    | .ok x => .ok (i, x)

/-- R37 for a command that carries a session handle and a lease handle. -/
def State.checkHandles (s : State) (p : PortIx) (lapsedToo : Bool) (h : SessionHandle)
    (k : LeaseHandle) : Except Status (SessSlot × Session × LeaseSlot × LeaseRecord) :=
  match ranged 16 h.slot, ranged 128 k.slot with
  | some i, some l =>
    match s.checkSession p lapsedToo i h.tag with
    | .error e => .error e
    | .ok x =>
      match s.checkLease i l k.issue with
      | .error e => .error e
      | .ok r => .ok (i, x, l, r)
  | _, _ => .error .badArg

/-! ### The arbiter (R168 to R170) -/

/-- What a command leaves: the tables, and the status and fields of its answer. -/
structure Answer where
  state : State
  status : Status
  fields : List Byte
  deriving DecidableEq, Repr

/-- A refusal: nothing changes and no field is carried (R170). -/
def State.refuse (s : State) (status : Status) : Answer := { state := s, status := status, fields := [] }

/-- The ports in the arbiter's search order after `last` was served (R168). -/
def rotation (last : PortIx) : List PortIx := [last + 1, last + 2, last + 3, last + 4, last]

/-- The frame that a port holds while it is PENDING (R158). -/
def Port.heldFrame (x : Port) : Option Frame :=
  match x.state with
  | .pending f => some f
  | _ => none

/-- The port that the arbiter takes next, with its held frame (R168). -/
def State.nextTake (s : State) : Option (PortIx × Frame) :=
  (rotation s.lastServed).findSome? fun p => (s.port p).heldFrame.map fun f => (p, f)

/-- The response is placed in port `p`, which goes to READY and becomes the last served (R168). -/
def State.respond (s : State) (p : PortIx) (reply : Reply) : State :=
  { s.setPort p { s.port p with state := .ready reply } with lastServed := p }

/-- The arbiter takes the frame of its next port if `row` says that the frame is one of the table's row
at hand, executes `body` on it and leaves the answer in the port. When the next frame is not one of the
row, or no port is PENDING, the event does not come about (log 2). -/
def State.take (s : State) (row : Frame → Bool) (body : PortIx → List Byte → State → Answer) : State :=
  match s.nextTake with
  | none => s
  | some (p, f) =>
    if row f then
      let a := body p f.args s
      a.state.respond p { code := f.code, status := a.status, fields := a.fields }
    else s

/-- Steps 2 and 3 of R169 before a command's own body: a management command is DENIED to the agent
ports, and an argument length other than `len` is answered BAD_ARG. -/
def checked (management : Bool) (len : Nat) (body : PortIx → List Byte → State → Answer)
    (p : PortIx) (args : List Byte) (s : State) : Answer :=
  if management ∧ p ≠ 4 then s.refuse .denied
  else if args.length ≠ len then s.refuse .badArg
  else body p args s

/-- A command that any port may send (11.3). -/
def State.command (s : State) (code : Byte) (len : Nat)
    (body : PortIx → List Byte → State → Answer) : State :=
  s.take (fun f => f.code = code) (checked false len body)

/-- A management command (11.3). -/
def State.management (s : State) (code : Byte) (len : Nat)
    (body : PortIx → List Byte → State → Answer) : State :=
  s.take (fun f => f.code = code) (checked true len body)

end Sys2Proof.Machine
end

