-- ==== Sys2Proof/Machine/Flags.lean ====
section
/-! DEFINITION. The levels that the state determines: notice levels and NTF pins, the alert list and
ALRT, the grant lines, and the status byte of a port. -/

namespace Sys2Proof.Machine

/-! ### Notices (R144, R145) -/

/-- The priority of a session's own notice (R90, R96). -/
def Session.noticePriority (x : Session) : SessionNotice → Priority
  | .sessionWarning => x.warnPriority
  | .sessionLapsed => 7

/-- The priorities of the notices pending for a session: its own, and those of the records in its list
(R145, R148). -/
def State.pendingPriorities (s : State) (x : Session) : List Priority :=
  (x.notice.map x.noticePriority).toList ++
    x.records.filterMap fun l => (s.record l).bind fun r => r.notice.map Notice.priority

/-- The number of notices pending for session slot `i` (R149). -/
def State.pendingCount (s : State) (i : SessSlot) : Nat :=
  match s.session i with
  | none => 0
  | some x => (s.pendingPriorities x).length

/-- A port's notice level: asserted while a session bound to it has a notice above its threshold (R145). -/
def State.noticeLevel (s : State) (p : PortIx) : Bool :=
  s.sessions.toList.any fun c =>
    match c.session with
    | none => false
    | some x => x.port = p && (s.pendingPriorities x).any fun n => s.thresholds.get p < n

/-- The pin NTFn, true for high: low while the level is asserted (R145). -/
def State.ntfHigh (s : State) (p : AgentPort) : Bool := !s.noticeLevel (p.castLE (by decide))

/-! ### Alerts (R154, R155) -/

/-- The alert list: directory slots ascending, FENCE_FAILED before GENERATION_SPENT, then session slots
ascending; each entry as its four bytes kind, slot, lapse cause, port (R155, 11.4). -/
def Alerts.list (a : Alerts) : List (List Byte) :=
  ((List.finRange 64).flatMap fun i =>
    (if a.fenceFailed.get i then [[1, natByte i, 0, 0]] else []) ++
      (if a.generationSpent.get i then [[2, natByte i, 0, 0]] else [])) ++
  (List.finRange 16).flatMap fun i =>
    match a.sessionLapsed.get i with
    | none => []
    | some l => [[3, natByte i, LapseCause.code (some l.cause), natByte l.port]]

/-- The number of alerts held (R154). -/
def Alerts.total (a : Alerts) : Nat := a.list.length

/-- The ALRT pin, true for high: low while an alert is held (R154). -/
def State.alrtHigh (s : State) : Bool := s.alerts.total = 0

/-! ### Grant lines (R136, R138) -/

/-- Whether a line mode accepts an entry state (R138). -/
def LineMode.accepts : LineMode → EntryState → Bool
  | .any, st => st = .heldExclusive || st = .heldShared
  | .exclusive, st => st = .heldExclusive

/-- Whether grant line `n` is at its active level (R138). -/
def State.lineActive (s : State) (n : LineNo) : Bool :=
  (s.lines.get n).enabled &&
    match s.findLine n with
    | none => false
    | some (_, e, mode) => mode.accepts e.state

/-- The pin GLn, true for high (R136). -/
def State.lineHigh (s : State) (n : LineNo) : Bool :=
  match (s.lines.get n).polarity with
  | .activeHigh => s.lineActive n
  | .activeLow => !s.lineActive n

/-! ### The status byte (R159, R174) -/

/-- The status byte of a port: PENDING, READY, REJECTED, NOTICE, RESET_SEEN in bits 0 to 4, and at MP
ALERT in bit 5. -/
def State.statusByte (s : State) (p : PortIx) : Byte :=
  let x := s.port p
  presence
    [match x.state with | .pending _ => true | _ => false,
     match x.state with | .ready _ => true | _ => false,
     x.rejected, s.noticeLevel p, x.resetSeen, p = 4 && s.alerts.total != 0]

/-- Whether an agent port drives MISO: while its chip select is low (10.2), but never while RESETN is
low (R173). -/
def State.misoDriven (s : State) (p : AgentPort) : Bool :=
  !s.resetLow && (s.port (p.castLE (by decide))).transaction.isSome

end Sys2Proof.Machine
end

