-- ==== Sys2Proof/Machine/Directory.lean ====
section
/-! DEFINITION. Chapter 1: DEFINE, AMEND, DELETE and QUERY RESOURCE. -/

namespace Sys2Proof.Machine

/-- Whether a profile argument names no profile or a valid one (R12). -/
def State.profileUsable (s : State) (profile : Option ProfileNo) : Bool :=
  match profile with
  | none => true
  | some n => (s.profiles.get n).isSome

/-- Whether an entry other than the one in slot `self` holds the line of a binding (R13). -/
def State.lineTaken (s : State) (self : Option DirSlot) (binding : Option LineBinding) : Bool :=
  match binding with
  | none => false
  | some b => (List.finRange 64).any fun i =>
      some i ≠ self && ((s.entry i).bind fun e => e.line.map LineBinding.line) = some b.line

/-- A new entry (R14). -/
def newEntry (a : DefineArgs) : Entry :=
  { state := .free
    key := a.key
    generation := 1
    current := a.policy
    staged := none
    priority := a.priority
    profile := a.profile
    line := a.line
    holders := 0
    exclusiveHolder := none
    queue := []
    spentReported := false }

/-- R14. -/
def defineResource (_p : PortIx) (args : List Byte) (s : State) : Answer :=
  match decodeDefine args with
  | none => s.refuse .badArg
  | some a =>
    if s.profileUsable a.profile = false then s.refuse .badArg
    else if (s.findKey a.key).isSome then s.refuse .exists_
    else
      match lowest 64 fun i => (s.entry i).isNone with
      | none => s.refuse .directoryFull
      | some i =>
        if s.lineTaken none a.line then s.refuse .lineBound
        else
          { state := s.setEntry i (some (newEntry a))
            status := .ok
            fields := natByte i :: wordBytes 1 }

/-- The entry with the named fields changed: policy fields at once in FREE, staged in every other state
(R9, R16). -/
def Entry.amended (e : Entry) (a : AmendArgs) : Entry :=
  let e' := { e with
    priority := a.priority.getD e.priority
    profile := a.profile.getD e.profile
    line := a.line.getD e.line }
  if a.namesPolicy = false then e'
  else if e.state = .free then { e' with current := a.amendPolicy e.current }
  else { e' with staged := some (a.amendPolicy (e.staged.getD e.current)) }

/-- R15, R16. -/
def amendResource (_p : PortIx) (args : List Byte) (s : State) : Answer :=
  match s.findKey (argWord args 0) with
  | none => s.refuse .noResource
  | some (i, e) =>
    match decodeAmend args with
    | none => s.refuse .badArg
    | some a =>
      if s.profileUsable (a.profile.getD none) = false then s.refuse .badArg
      else if s.lineTaken (some i) (a.line.getD none) then s.refuse .lineBound
      else { state := s.setEntry i (some (e.amended a)), status := .ok, fields := [] }

/-- Whether a lease record names directory slot `i` (R17). -/
def State.namedByRecord (s : State) (i : DirSlot) : Bool :=
  s.leases.toList.any fun c => c.record.any fun r => r.resource = i

/-- The FENCE_FAILED and GENERATION_SPENT alerts of slot `i` cleared (R17, R156). -/
def State.clearResourceAlerts (s : State) (i : DirSlot) : State :=
  { s with alerts := { s.alerts with
      fenceFailed := put s.alerts.fenceFailed i false
      generationSpent := put s.alerts.generationSpent i false } }

/-- R17. -/
def deleteResource (_p : PortIx) (args : List Byte) (s : State) : Answer :=
  match s.findKey (argWord args 0) with
  | none => s.refuse .noResource
  | some (i, e) =>
    if e.state ≠ .free ∨ s.namedByRecord i then s.refuse .busy
    else { state := (s.setEntry i none).clearResourceAlerts i, status := .ok, fields := [] }

/-- The 16 bytes of QUERY RESOURCE's answer (R18, 11.4). -/
def State.resourceFields (s : State) (e : Entry) : List Byte :=
  [e.state.code] ++ wordBytes e.generation ++
    [natByte e.holders, presence [e.exclusiveHolder.isSome, e.staged.isSome]] ++
    (match e.exclusiveHolder with
      | none => [0, 0, 0]
      | some l => natByte l :: halfBytes (s.lease l).issue) ++
    [natByte e.queue.length] ++ halfBytes e.current.term ++ halfBytes e.current.warnLead ++
    [e.current.renewLimit]

/-- R18. -/
def queryResource (_p : PortIx) (args : List Byte) (s : State) : Answer :=
  match s.findKey (argWord args 0) with
  | none => s.refuse .noResource
  | some (_, e) => { state := s, status := .ok, fields := s.resourceFields e }

/-- DEFINE_RESOURCE (R14). -/
def execDefineResource (s : State) : Host.Outcome State Fault Refusal :=
  .next (s.management Code.defineResource 13 defineResource)

/-- AMEND_RESOURCE (R15, R16). -/
def execAmendResource (s : State) : Host.Outcome State Fault Refusal :=
  .next (s.management Code.amendResource 14 amendResource)

/-- DELETE_RESOURCE (R17). -/
def execDeleteResource (s : State) : Host.Outcome State Fault Refusal :=
  .next (s.management Code.deleteResource 4 deleteResource)

/-- QUERY_RESOURCE (R18). -/
def execQueryResource (s : State) : Host.Outcome State Fault Refusal :=
  .next (s.command Code.queryResource 4 queryResource)

end Sys2Proof.Machine
end

