-- ==== Sys2Proof/Machine/Enforcement.lean ====
section
/-! DEFINITION. Chapter 7: SET PROFILE and SET BUS, and the ends of attempts and recoveries on the
enforcement bus. -/

namespace Sys2Proof.Machine

/-- Whether the binding of a defined entry names profile `n` (R123). -/
def State.profileNamed (s : State) (n : ProfileNo) : Bool :=
  s.directory.toList.any fun e => e.any fun e => e.profile = some n

/-- A profile slot written, and the answer with the profile as it now stands (R123). -/
def State.writeProfile (s : State) (n : ProfileNo) (p : Option Profile) : Answer :=
  { state := { s with profiles := put s.profiles n p }
    status := .ok
    fields := profileBytes n p }

/-- R123. -/
def setProfile (_p : PortIx) (args : List Byte) (s : State) : Answer :=
  match ranged 8 (argByte args 0), decodeBool (argByte args 1) with
  | some n, some true =>
    match decodeProfile args with
    | none => s.refuse .badArg
    | some p => s.writeProfile n (some p)
  | some n, some false => if s.profileNamed n then s.refuse .busy else s.writeProfile n none
  | _, _ => s.refuse .badArg

/-- R126. -/
def setBus (_p : PortIx) (args : List Byte) (s : State) : Answer :=
  match decodeSpeed (argByte args 0) with
  | none => s.refuse .badArg
  | some v =>
    { state := { s with bus := { s.bus with speed := v } }, status := .ok, fields := [v.code] }

/-- SET_PROFILE (R123). -/
def execSetProfile (s : State) : Host.Outcome State Fault Refusal :=
  .next (s.management Code.setProfile 8 setProfile)

/-- SET_BUS (R126). -/
def execSetBus (s : State) : Host.Outcome State Fault Refusal :=
  .next (s.management Code.setBus 1 setBus)

/-! ### The bus

An event of an attempt names the place of the sequence at which it comes about; it is the place that
the attempt has reached, or the event does not come about (log 2, log 11). -/

/-- The attempt in TRANSFER (R125). -/
def Bus.onBus (b : Bus) : Option Attempt :=
  match b.state with
  | .transfer => b.attempt
  | _ => none

/-- The controller as it enters IDLE, its attempt record cleared (R133), having driven `driven`. -/
def Bus.enterIdle (b : Bus) (driven : List BusItem) : Bus :=
  { b with state := .idle, runSpeed := none, attempt := none, driven := driven }

/-- The controller as it enters RECOVERY from a stalled attempt; the recovery runs at the speed in force
now (R126, R131, R132). -/
def Bus.enterRecovery (b : Bus) (a : Attempt) : Bus :=
  { b with state := .recovery, runSpeed := some b.speed, driven := a.driven }

/-- The bus goes IDLE at the end of an attempt whose failure is reported (R111, R130). -/
def State.failIdle (s : State) (driven : List BusItem) (lines : BusLines) : State :=
  (({ s with bus := s.bus.enterIdle driven } : State).failHead).startAttempt lines

/-- The head job is removed at its success, and its entry goes from FENCING to FREE with the grant
check (R110). -/
def State.settleHead (s : State) : State :=
  match s.fenceQueue with
  | [] => s
  | j :: rest =>
    let s' := { s with fenceQueue := rest }
    match s'.entry j.resource with
    | none => s'
    | some e =>
      if e.state = .fencing then (s'.setEntry j.resource (some e.enterFree)).grantCheck j.resource
      else s'

/-- What the attempt has reached: the item at its place in the sequence. -/
def Attempt.item (a : Attempt) : Option BusItem := a.sequence[a.position]?

/-- Whether the attempt has reached the STOP, the last place of its sequence. -/
def Attempt.atStop (a : Attempt) : Bool := a.position + 1 = a.sequence.length

/-- ATTEMPT_SUCCESS (R110, R128 to R130): an attempt that goes well moves on by one place of its
sequence, and after its STOP it ends: the read-back, if any, matched, the head job is settled, and the
next head job starts on the idle bus. An abandoned attempt does not move on (R134). -/
def execAttemptSuccess (phase : AttemptPhase) (s : State) : Host.Outcome State Fault Refusal :=
  match s.bus.onBus with
  | none => .next s
  | some a =>
    if a.abandoned then .next s
    else
      match phase with
      | .moved =>
        if a.atStop then .next s
        else .next { s with bus := { s.bus with attempt := some { a with position := a.position + 1 } } }
      | .ended lines =>
        if a.atStop then
          .next (({ s with bus := s.bus.enterIdle a.sequence } : State).settleHead.startAttempt lines)
        else .next s

/-- Whether the attempt is at a byte that the target acknowledges (R130). -/
def Attempt.writing (a : Attempt) : Bool :=
  match a.item with
  | some (.write _) => true
  | _ => false

/-- Whether a stall can come at the place reached (R131). It can within a byte and before or during the
STOP; at a repeated START only when the attempt is abandoned, since then the STOP is waited for. Each
such wait counts to the byte just before it. At the first START there is no such byte, and no stall
(log 23). -/
def Attempt.canStall (a : Attempt) : Bool :=
  match a.item with
  | some (.write _) => true
  | some .read => true
  | some .stop => true
  | some .repeatedStart => a.abandoned
  | _ => false

/-- ATTEMPT_NACK (R130, R111, R112): the byte at the place reached is not acknowledged; a STOP follows. -/
def execAttemptNack (at_ : Nat) (lines : BusLines) (s : State) : Host.Outcome State Fault Refusal :=
  match s.bus.onBus with
  | none => .next s
  | some a =>
    if a.position = at_ ∧ a.abandoned = false ∧ a.writing = true then
      .next (s.failIdle (a.driven ++ [.stop]) lines)
    else .next s

/-- READ_BACK_MISMATCH (R129): after the STOP, the byte that the verify phase read is compared with the
fixed value and differs. -/
def execReadBackMismatch (readBack : Byte) (lines : BusLines) (s : State) :
    Host.Outcome State Fault Refusal :=
  match s.bus.onBus with
  | none => .next s
  | some a =>
    if !a.abandoned && a.verify && a.atStop && readBack ≠ a.expected then
      .next (s.failIdle a.sequence lines)
    else .next s

/-- STALL (R131, R134): RECOVERY begins, and the failure is reported unless the attempt is abandoned. An
attempt abandoned at its first START does not stall (log 23). -/
def execStall (at_ : Nat) (s : State) : Host.Outcome State Fault Refusal :=
  match s.bus.onBus with
  | none => .next s
  | some a =>
    if a.position = at_ ∧ a.canStall = true then
      let s' := { s with bus := s.bus.enterRecovery a }
      if a.abandoned then .next s' else .next s'.failHead
    else .next s

/-- RECOVERY_END (R132): the pulses end with ESDA high or after the ninth, a STOP is generated, and the
head job starts on the idle bus. -/
def execRecoveryEnd (pulses : Nat) (freed : Bool) (lines : BusLines) (s : State) :
    Host.Outcome State Fault Refusal :=
  if s.bus.state = .recovery ∧ pulses ≤ 9 ∧ (freed = true ∨ pulses = 9) then
    .next (({ s with
      bus := s.bus.enterIdle (s.bus.driven ++ List.replicate pulses .pulse ++ [.stop]) } :
        State).startAttempt lines)
  else .next s

/-- RECOVERY_TIMEOUT (R132): both lines are released without a STOP. -/
def execRecoveryTimeout (pulses : Nat) (lines : BusLines) (s : State) :
    Host.Outcome State Fault Refusal :=
  if s.bus.state = .recovery ∧ pulses ≤ 9 then
    .next (({ s with bus := s.bus.enterIdle (s.bus.driven ++ List.replicate pulses .pulse) } :
      State).startAttempt lines)
  else .next s

/-- ABANDONED_ATTEMPT_END (R134): the byte in progress, if one has begun since the last START or repeated
START, is finished, a STOP is generated, nothing is reported, and the head of the rebuilt queue starts on
the idle bus. -/
def execAbandonedAttemptEnd (at_ : Nat) (lines : BusLines) (s : State) :
    Host.Outcome State Fault Refusal :=
  match s.bus.onBus with
  | none => .next s
  | some a =>
    if a.position = at_ ∧ a.abandoned = true then
      .next (({ s with bus := s.bus.enterIdle (a.driven ++ [.stop]) } : State).startAttempt lines)
    else .next s

end Sys2Proof.Machine
end

