-- ==== Sys2Proof/Machine/Fencing.lean ====
section
/-! DEFINITION. Chapter 6: FORCE REVOKE and CLEAR FENCE. -/

namespace Sys2Proof.Machine

/-- The live records that name directory slot `i`, in ascending lease slot order (R105). -/
def State.liveRecordsOf (s : State) (i : DirSlot) : List LeaseSlot :=
  (List.finRange 128).filter fun l =>
    match s.record l with
    | none => false
    | some r => r.live && r.resource = i

/-- The state and generation of slot `i` as a command leaves them (R105, R116). -/
def State.entryFields (s : State) (i : DirSlot) : List Byte :=
  match s.entry i with
  | none => [0] ++ wordBytes 0
  | some e => [e.state.code] ++ wordBytes e.generation

/-- R105. -/
def forceRevoke (lines : BusLines) (_p : PortIx) (args : List Byte) (s : State) : Answer :=
  match s.findKey (argWord args 0) with
  | none => s.refuse .noResource
  | some (i, e) =>
    if e.holders = 0 then s.refuse .notHeld
    else
      let live := s.liveRecordsOf i
      let s' := live.foldl (fun t l => t.revokeEnding l .forced lines) s
      { state := s', status := .ok, fields := natByte live.length :: s'.entryFields i }

/-- R115, R116: CLEAR FENCE with an action other than RETRY, which only ACCEPT passes. -/
def clearFenceAccept (_p : PortIx) (args : List Byte) (s : State) : Answer :=
  if argByte args 4 ≠ 0 then s.refuse .badArg
  else
    match s.findKey (argWord args 0) with
    | none => s.refuse .noResource
    | some (i, e) =>
      if e.state ≠ .fenceFailed then s.refuse .badState
      else
        let s' := (s.setEntry i (some e.enterFree)).grantCheck i
        { state := s', status := .ok, fields := s'.entryFields i }

/-- R115, R117: CLEAR FENCE RETRY. -/
def clearFenceRetry (lines : BusLines) (_p : PortIx) (args : List Byte) (s : State) : Answer :=
  match s.findKey (argWord args 0) with
  | none => s.refuse .noResource
  | some (i, e) =>
    if e.state ≠ .fenceFailed then s.refuse .badState
    else
      match s.profileOf e with
      | none => s.refuse .badState
      | some p =>
        let s' := (s.setEntry i (some e.enterFencing)).appendJob (freshJob i e p) lines
        { state := s', status := .ok, fields := s'.entryFields i }

/-- FORCE_REVOKE (R105). -/
def execForceRevoke (lines : BusLines) (s : State) : Host.Outcome State Fault Refusal :=
  .next (s.management Code.forceRevoke 4 (forceRevoke lines))

/-- CLEAR_FENCE_ACCEPT (R115, R116): the next frame is a CLEAR FENCE whose action byte is not RETRY
(log 13). -/
def execClearFenceAccept (s : State) : Host.Outcome State Fault Refusal :=
  .next (s.take (fun f => f.code = Code.clearFence && argByte f.args 4 ≠ 1)
    (checked true 5 clearFenceAccept))

/-- CLEAR_FENCE_RETRY (R115, R117): the next frame is a CLEAR FENCE whose action byte is RETRY. -/
def execClearFenceRetry (lines : BusLines) (s : State) : Host.Outcome State Fault Refusal :=
  .next (s.take (fun f => f.code = Code.clearFence && argByte f.args 4 = 1)
    (checked true 5 (clearFenceRetry lines)))

end Sys2Proof.Machine
end

