-- ==== Sys2Proof/Machine/GrantLines.lean ====
section
/-! DEFINITION. Chapter 8: SET LINE. -/

namespace Sys2Proof.Machine

/-- R137. -/
def setLine (_p : PortIx) (args : List Byte) (s : State) : Answer :=
  match ranged 16 (argByte args 0), decodePolarity (argByte args 1), decodeBool (argByte args 2) with
  | some n, some pol, some on =>
    let s' := { s with lines := put s.lines n { polarity := pol, enabled := on } }
    { state := s'
      status := .ok
      fields := [natByte n, pol.code, boolByte on] ++
        (match s'.findLine n with
          | none => [0xFF, 0xFF]
          | some (i, _, mode) => [natByte i, mode.code]) ++
        [boolByte (s'.lineHigh n)] }
  | _, _, _ => s.refuse .badArg

/-- SET_LINE (R137). -/
def execSetLine (s : State) : Host.Outcome State Fault Refusal :=
  .next (s.management Code.setLine 3 setLine)

end Sys2Proof.Machine
end

