-- ==== Sys2Proof/Machine/LeaseClock.lean ====
section
/-! DEFINITION. Chapter 4: the lease clock's commands and its tick. -/

namespace Sys2Proof.Machine

/-- The fields of READ CLOCK's, CLOCK START's and CLOCK STOP's answers (11.4). -/
def Clock.fields (c : Clock) : List Byte := wordBytes c.count ++ [c.state.code, natByte c.divider]

/-- R70. -/
def readClock (_p : PortIx) (_args : List Byte) (s : State) : Answer :=
  { state := s, status := .ok, fields := s.clock.fields }

/-- R67: in RUNNING nothing changes; in STOPPED the periods toward the first tick count from now. -/
def Clock.start (c : Clock) : Clock :=
  match c.state with
  | .running => c
  | .stopped => { c with state := .running, periods := 0 }

/-- R67. -/
def clockStart (_p : PortIx) (_args : List Byte) (s : State) : Answer :=
  let s' := { s with clock := s.clock.start }
  { state := s', status := .ok, fields := s'.clock.fields }

/-- R68: the periods counted toward the next tick are discarded. -/
def Clock.stop (c : Clock) : Clock :=
  match c.state with
  | .running => { c with state := .stopped, periods := 0 }
  | .stopped => c

/-- R68. -/
def clockStop (_p : PortIx) (_args : List Byte) (s : State) : Answer :=
  let s' := { s with clock := s.clock.stop }
  { state := s', status := .ok, fields := s'.clock.fields }

/-- R69. -/
def setClock (_p : PortIx) (args : List Byte) (s : State) : Answer :=
  match ranged 8 (argByte args 4) with
  | none => s.refuse .badArg
  | some d =>
    if s.clock.state = .running then s.refuse .clockRunning
    else if s.sessions.toList.any fun c => c.session.isSome then s.refuse .busy
    else
      { state := { s with clock := { s.clock with count := argWord args 0, divider := d } }
        status := .ok
        fields := wordBytes (argWord args 0) ++ [natByte d] }

/-- The number of REFCLK periods in a tick (R66). -/
def Clock.periodsPerTick (c : Clock) : Nat := 8 * 2 ^ c.divider.val

/-- READ_CLOCK (R70). -/
def execReadClock (s : State) : Host.Outcome State Fault Refusal :=
  .next (s.command Code.readClock 0 readClock)

/-- CLOCK_START (R67). -/
def execClockStart (s : State) : Host.Outcome State Fault Refusal :=
  .next (s.management Code.clockStart 0 clockStart)

/-- Whether the arbiter's next frame would stop the clock. -/
def State.stopIsNext (s : State) : Bool :=
  s.nextTake.any fun t => t.1 = 4 && t.2.code = Code.clockStop && t.2.args.isEmpty

/-- CLOCK_STOP (R68). The marks that the last tick reached are taken before the clock stops, so the
command that stops it is not taken while one of them is still due (R68, R73; log 3). -/
def execClockStop (s : State) : Host.Outcome State Fault Refusal :=
  if s.markDue && s.stopIsNext then .next s
  else .next (s.management Code.clockStop 0 clockStop)

/-- SET_CLOCK (R69). -/
def execSetClock (s : State) : Host.Outcome State Fault Refusal :=
  .next (s.management Code.setClock 5 setClock)

/-- TICK (R66): in RUNNING, `periods` REFCLK periods are counted, and when they complete the divider's
number the count advances by one. A mark is reached at its tick, so no REFCLK period passes before the
marks reached at the present count have been taken (R73, R75, log 3). In STOPPED no period is counted. -/
def execTick (periods : Nat) (s : State) : Host.Outcome State Fault Refusal :=
  match s.clock.state with
  | .stopped => .next s
  | .running =>
    if s.markDue then .next s
    else if s.clock.periods + periods < s.clock.periodsPerTick then
      .next { s with clock := { s.clock with periods := s.clock.periods + periods } }
    else .next { s with clock := { s.clock with count := s.clock.count + 1, periods := 0 } }

end Sys2Proof.Machine
end

