-- ==== Sys2Proof/Machine/Leases.lean ====
section
/-! DEFINITION. Chapters 2 to 4: ACQUIRE, RELEASE, RENEW and QUERY LEASE. -/

namespace Sys2Proof.Machine

/-- Whether session `x` has a record in WAITING, ACTIVE or WARNED on resource `i` (R42). -/
def State.hasClaim (s : State) (x : Session) (i : DirSlot) : Bool :=
  x.records.any fun l =>
    match s.record l with
    | none => false
    | some r => r.resource = i && r.state ≠ .ended

/-- The number of non-VACANT records in a session's list (R44). -/
def State.recordCount (s : State) (x : Session) : Nat :=
  (x.records.filter fun l => (s.record l).isSome).length

/-- Whether a request is grantable at once (R45). -/
def Entry.grantable (e : Entry) (mode : LeaseMode) : Bool :=
  e.queue.isEmpty && (e.state = .free || (e.state = .heldShared && mode = .shared))

/-- A record as allocated, WAITING without a wait mark (R22, R26). -/
def newRecord (i : SessSlot) (d : DirSlot) (mode : LeaseMode) : LeaseRecord :=
  { state := .waiting
    session := i
    resource := d
    mode := mode
    token := none
    expiry := none
    warn := none
    wait := none
    renewCount := 0
    notice := none
    endCause := none }

/-- Lease slot `l` taken into use for record `r`: its issue number advances, and the slot joins its
session's record list at the tail (R22, R25). -/
def State.allocate (s : State) (l : LeaseSlot) (r : LeaseRecord) : State :=
  (s.setLease l { issue := (s.lease l).issue + 1, record := some r }).modifySession r.session
    fun x => { x with records := x.records ++ [l] }

/-- The mark of a wait limit: none for 65535 (R26, R51). -/
def waitMark (count : Word) (limit : Half) : Option Word :=
  if limit = 0xFFFF then none else some (markAt count limit)

/-- The handle of a lease slot as sent (11.3). -/
def State.handleBytes (s : State) (l : LeaseSlot) : List Byte := natByte l :: halfBytes (s.lease l).issue

/-- An ACQUIRE that passed R41 and is grantable at once, with lease slot `l` (R46). -/
def State.grantAtOnce (s : State) (i : SessSlot) (d : DirSlot) (e : Entry) (mode : LeaseMode)
    (l : LeaseSlot) : Answer :=
  let e' := e.granted l mode
  let s' := (s.setEntry d (some e')).allocate l ((newRecord i d mode).granted e' s.clock.count none)
  { state := s'
    status := .ok
    fields := s'.handleBytes l ++ wordBytes e'.generation ++
      wordBytes (markAt s.clock.count e'.current.term) }

/-- An ACQUIRE that passed R41 and waits, with lease slot `l` (R48). -/
def State.enqueue (s : State) (i : SessSlot) (d : DirSlot) (e : Entry) (mode : LeaseMode)
    (limit : Half) (l : LeaseSlot) : Answer :=
  let e' := { e with queue := e.queue ++ [l] }
  let s' := (s.setEntry d (some e')).allocate l
    { newRecord i d mode with wait := waitMark s.clock.count limit }
  { state := s', status := .queued, fields := s'.handleBytes l ++ [natByte e'.queue.length] }

/-- R41 to R48. -/
def acquire (p : PortIx) (args : List Byte) (s : State) : Answer :=
  let h := argSession args
  match ranged 16 h.slot, decodeMode (argByte args 7) with
  | some i, some mode =>
    match s.checkSession p false i h.tag with
    | .error e => s.refuse e
    | .ok x =>
      match s.findKey (argWord args 3) with
      | none => s.refuse .noResource
      | some (d, e) =>
        if s.hasClaim x d then s.refuse .duplicate
        else if mode = .exclusive ∧ e.spent then (s.reportSpent d).refuse .spent
        else if s.recordCount x = x.quota then s.refuse .quota
        else
          match lowest 128 fun l => (s.record l).isNone with
          | none => s.refuse .tableFull
          | some l =>
            if e.grantable mode then s.grantAtOnce i d e mode l
            else if argHalf args 8 = 0 then s.refuse .conflict
            else s.enqueue i d e mode (argHalf args 8) l
  | _, _ => s.refuse .badArg

/-- R58 to R60. -/
def release (p : PortIx) (args : List Byte) (s : State) : Answer :=
  match s.checkHandles p false (argSession args) (argLease args 3) with
  | .error e => s.refuse e
  | .ok (_, _, l, r) =>
    { state := s.freeRecord l, status := if r.state = .ended then .ended else .ok, fields := [] }

/-- The renewed record (R76, R79, R80): the renew count holds at 255, a pending WARNING goes and a
pending GRANTED stays. -/
def LeaseRecord.renewed (r : LeaseRecord) (p : Policy) (count : Word) : LeaseRecord :=
  { r with
    state := .active
    expiry := some (markAt count p.term)
    warn := warnMark count p.term p.warnLead
    renewCount := if r.renewCount = 255 then 255 else r.renewCount + 1
    notice := r.notice.filter fun n => n.kind ≠ .warning }

/-- Whether the renewal limit is reached (R79). -/
def limitReached (p : Policy) (r : LeaseRecord) : Bool := p.renewLimit ≠ 0 && r.renewCount = p.renewLimit

/-- R78 to R80. A record names a defined entry always (R38); without one there would be no policy to
renew under (log 15). The presence byte of the answer marks the warn mark in bit 0 (R177, log 24). -/
def renew (p : PortIx) (args : List Byte) (s : State) : Answer :=
  match s.checkHandles p false (argSession args) (argLease args 3) with
  | .error e => s.refuse e
  | .ok (_, _, l, r) =>
    match r.state with
    | .waiting => s.refuse .notHeld
    | .ended => s.refuse .ended
    | _ =>
      match s.entry r.resource with
      | none => s.refuse .notHeld
      | some e =>
        if limitReached e.current r then s.refuse .limit
        else
          let r' := r.renewed e.current s.clock.count
          { state := s.setRecord l (some r')
            status := .ok
            fields := presence [r'.warn.isSome] :: optWordBytes r'.expiry ++ optWordBytes r'.warn ++
              [r'.renewCount] }

/-- The key of directory slot `d` (R38). -/
def State.keyOf (s : State) (d : DirSlot) : Word := ((s.entry d).map Entry.key).getD 0

/-- The place of a record in its wait queue, 1 being the head; absent unless WAITING (R38, R50). -/
def State.queuePosition (s : State) (l : LeaseSlot) (r : LeaseRecord) : Option Nat :=
  if r.state = .waiting then
    (s.entry r.resource).bind fun e => (e.queue.idxOf? l).map (· + 1)
  else none

/-- The 31 bytes of QUERY LEASE's answer (R38, 11.4). -/
def State.leaseFields (s : State) (l : LeaseSlot) (r : LeaseRecord) : List Byte :=
  let position := s.queuePosition l r
  [r.state.code] ++ s.handleBytes l ++ wordBytes (s.keyOf r.resource) ++ [r.mode.code] ++
    [presence [r.token.isSome, r.expiry.isSome, r.warn.isSome, r.wait.isSome, position.isSome]] ++
    optWordBytes r.token ++ optWordBytes r.expiry ++ optWordBytes r.warn ++ optWordBytes r.wait ++
    [r.renewCount, ((r.notice.map fun n => n.kind.code).getD 0),
      natByte ((r.notice.map fun n => n.priority.val).getD 0), EndCause.code r.endCause,
      natByte (position.getD 0)]

/-- R38. -/
def queryLease (p : PortIx) (args : List Byte) (s : State) : Answer :=
  match s.checkHandles p true (argSession args) (argLease args 3) with
  | .error e => s.refuse e
  | .ok (_, _, l, r) => { state := s, status := .ok, fields := s.leaseFields l r }

/-- ACQUIRE (R41). -/
def execAcquire (s : State) : Host.Outcome State Fault Refusal :=
  .next (s.command Code.acquire 10 acquire)

/-- RELEASE (R58). -/
def execRelease (s : State) : Host.Outcome State Fault Refusal :=
  .next (s.command Code.release 6 release)

/-- RENEW (R78). -/
def execRenew (s : State) : Host.Outcome State Fault Refusal :=
  .next (s.command Code.renew 6 renew)

/-- QUERY_LEASE (R38). -/
def execQueryLease (s : State) : Host.Outcome State Fault Refusal :=
  .next (s.command Code.queryLease 6 queryLease)

end Sys2Proof.Machine
end

