-- ==== Sys2Proof/Machine/Sessions.lean ====
section
/-! DEFINITION. Chapter 5: OPEN SESSION, KEEPALIVE, CLOSE SESSION and PURGE SESSION. -/

namespace Sys2Proof.Machine

/-- A new session (R87, R88). -/
def newSession (p : PortIx) (a : OpenArgs) (count : Word) : Session :=
  { state := .opened
    port := p
    term := a.term
    warnLead := a.warnLead
    warnPriority := a.warnPriority
    noticeMode := a.noticeMode
    quota := a.quota
    expiry := some (markAt count a.term)
    warn := warnMark count a.term a.warnLead
    records := []
    notice := none
    lapseCause := none }

/-- R86, R87. -/
def openSession (p : PortIx) (args : List Byte) (s : State) : Answer :=
  match decodeOpen args with
  | none => s.refuse .badArg
  | some a =>
    match lowest 16 fun i => (s.session i).isNone with
    | none => s.refuse .sessionsFull
    | some i =>
      let x := newSession p a s.clock.count
      let tag := (s.sessionCell i).tag + 1
      { state := s.setSessionCell i { tag := tag, session := some x }
        status := .ok
        fields := natByte i :: halfBytes tag ++ [presence [x.warn.isSome]] ++
          optWordBytes x.expiry ++ optWordBytes x.warn ++ [natByte x.quota] }

/-- A session kept alive (R88, R89). -/
def Session.keptAlive (x : Session) (count : Word) : Session :=
  { x with
    state := .opened
    expiry := some (markAt count x.term)
    warn := warnMark count x.term x.warnLead
    notice := none }

/-- R89. The presence byte marks the warn mark in bit 0 (R177, log 24). -/
def keepalive (p : PortIx) (args : List Byte) (s : State) : Answer :=
  match s.checkHandle p false (argSession args) with
  | .error e => s.refuse e
  | .ok (i, x) =>
    let x' := x.keptAlive s.clock.count
    { state := s.setSession i (some x')
      status := .ok
      fields := presence [x'.warn.isSome] :: optWordBytes x'.expiry ++ optWordBytes x'.warn }

/-- R93, R94. -/
def closeSession (p : PortIx) (args : List Byte) (s : State) : Answer :=
  match s.checkHandle p true (argSession args) with
  | .error e => s.refuse e
  | .ok (i, x) =>
    if x.state = .lapsed then { state := s.setSession i none, status := .lapsed, fields := [] }
    else { state := (s.releaseAll x.records).setSession i none, status := .ok, fields := [] }

/-- The lapse of a live session `x` in slot `i` with a cause, up to the session's own end: its marks go,
the walk tears its records down, and the alert is raised (R95, R96, R99). -/
def State.lapse (s : State) (i : SessSlot) (x : Session) (cause : LapseCause) (lines : BusLines) : State :=
  ((s.dropSessionMarks i).teardown x.records lines).raiseLapsed i { cause := cause, port := x.port }

/-- R99. -/
def purgeSession (lines : BusLines) (_p : PortIx) (args : List Byte) (s : State) : Answer :=
  match ranged 16 (argByte args 0) with
  | none => s.refuse .badArg
  | some i =>
    match s.session i with
    | none => s.refuse .badState
    | some x =>
      if x.state = .lapsed then { state := s.setSession i none, status := .ok, fields := [] }
      else { state := (s.lapse i x .purged lines).setSession i none, status := .ok, fields := [] }

/-- OPEN_SESSION (R86, R87). -/
def execOpenSession (s : State) : Host.Outcome State Fault Refusal :=
  .next (s.command Code.openSession 7 openSession)

/-- KEEPALIVE (R89). -/
def execKeepalive (s : State) : Host.Outcome State Fault Refusal :=
  .next (s.command Code.keepalive 3 keepalive)

/-- CLOSE_SESSION (R93, R94). -/
def execCloseSession (s : State) : Host.Outcome State Fault Refusal :=
  .next (s.command Code.closeSession 3 closeSession)

/-- PURGE_SESSION (R99). -/
def execPurgeSession (lines : BusLines) (s : State) : Host.Outcome State Fault Refusal :=
  .next (s.management Code.purgeSession 1 (purgeSession lines))

end Sys2Proof.Machine
end

