-- ==== Sys2Proof/Machine/Marks.lean ====
section
/-! DEFINITION. The events of reached marks (chapters 2 to 5). A mark that is not reached at the present
count gives no event: the state stays as it is (R73, log 3). -/

namespace Sys2Proof.Machine

/-- A record that has been warned, its notice at priority `p` (R28). -/
def LeaseRecord.warnedWith (r : LeaseRecord) (p : Priority) : LeaseRecord :=
  { r with state := .warned, warn := none, notice := some { kind := .warning, priority := p } }

/-- WARN_MARK_REACHED (R28, R77). -/
def execWarnMarkReached (l : LeaseSlot) (s : State) : Host.Outcome State Fault Refusal :=
  match s.record l with
  | none => .next s
  | some r =>
    if r.state = .active && s.reached r.warn then
      .next (s.setRecord l (some (r.warnedWith (s.priorityOf r.resource))))
    else .next s

/-- HOLD_EXPIRY (R31, R103, R104). -/
def execHoldExpiry (l : LeaseSlot) (lines : BusLines) (s : State) :
    Host.Outcome State Fault Refusal :=
  match s.record l with
  | none => .next s
  | some r =>
    if r.live && s.reached r.expiry then .next (s.revokeEnding l .expired lines) else .next s

/-- WAIT_EXPIRY (R29, R57). -/
def execWaitExpiry (l : LeaseSlot) (s : State) : Host.Outcome State Fault Refusal :=
  match s.record l with
  | none => .next s
  | some r =>
    if r.state = .waiting && s.reached r.wait then
      .next ((s.endRecord l .waitExpired).leaveQueue r.resource l)
    else .next s

/-- SESSION_WARNING (R90). -/
def execSessionWarning (i : SessSlot) (s : State) : Host.Outcome State Fault Refusal :=
  match s.session i with
  | none => .next s
  | some x =>
    if x.state = .opened && s.reached x.warn then
      .next (s.setSession i
        (some { x with state := .warned, warn := none, notice := some .sessionWarning }))
    else .next s

/-- A lapsed session (R84, R96 action 2). -/
def Session.lapsedBy (x : Session) (cause : LapseCause) : Session :=
  { x with
    state := .lapsed
    expiry := none
    warn := none
    records := []
    notice := some .sessionLapsed
    lapseCause := some cause }

/-- SESSION_LAPSE (R95, R96). -/
def execSessionLapse (i : SessSlot) (lines : BusLines) (s : State) :
    Host.Outcome State Fault Refusal :=
  match s.session i with
  | none => .next s
  | some x =>
    if x.state ≠ .lapsed && s.reached x.expiry then
      .next ((s.lapse i x .expired lines).setSession i (some (x.lapsedBy .expired)))
    else .next s

end Sys2Proof.Machine
end

