-- ==== Sys2Proof/Machine/Notices.lean ====
section
/-! DEFINITION. Chapter 9: FETCH NOTICE, ACK NOTICE, SET THRESHOLD, READ ALERTS and ACK ALERT. -/

namespace Sys2Proof.Machine

/-- A notice that FETCH NOTICE has selected. -/
inductive Selected where
  | session (kind : SessionNotice)
  | record (lease : LeaseSlot) (record : LeaseRecord) (notice : Notice)
  deriving DecidableEq, Repr

/-- The better of the best record notice so far and that of lease slot `l`: the higher priority, then
the lower slot (R148). -/
def State.betterNotice (s : State) (best : Option (LeaseSlot × LeaseRecord × Notice)) (l : LeaseSlot) :
    Option (LeaseSlot × LeaseRecord × Notice) :=
  match s.record l with
  | none => best
  | some r =>
    match r.notice, best with
    | none, _ => best
    | some n, none => some (l, r, n)
    | some n, some (b, rb, nb) =>
      if nb.priority < n.priority ∨ (nb.priority = n.priority ∧ l < b) then some (l, r, n)
      else some (b, rb, nb)

/-- The record notice that R148 selects among a session's. -/
def State.bestRecordNotice (s : State) (records : List LeaseSlot) :
    Option (LeaseSlot × LeaseRecord × Notice) :=
  records.foldl s.betterNotice none

/-- The notice that FETCH NOTICE selects: the highest priority, the session's own first among equals
(R148). -/
def State.selectNotice (s : State) (x : Session) : Option Selected :=
  match x.notice, s.bestRecordNotice x.records with
  | none, none => none
  | some k, none => some (.session k)
  | none, some (l, r, n) => some (.record l r n)
  | some k, some (l, r, n) =>
    if x.noticePriority k < n.priority then some (.record l r n) else some (.session k)

/-- The notice of lease slot `l` retired: an ENDED record is freed, another notice is cleared (R33). -/
def State.retireRecord (s : State) (l : LeaseSlot) : State :=
  match s.record l with
  | none => s
  | some r =>
    match r.notice.map Notice.kind with
    | none => s
    | some .ended => s.freeRecord l
    | some _ => s.setRecord l (some { r with notice := none })

/-- The notice of session slot `i` retired: SESSION_WARNING is cleared (R91), SESSION_LAPSED frees the
slot (R97). -/
def State.retireSession (s : State) (i : SessSlot) : State :=
  match s.session i with
  | none => s
  | some x =>
    match x.notice with
    | none => s
    | some .sessionWarning => s.setSession i (some { x with notice := none })
    | some .sessionLapsed => s.setSession i none

/-- A selected notice retired (R150). -/
def State.retire (s : State) (i : SessSlot) : Selected → State
  | .session _ => s.retireSession i
  | .record l _ _ => s.retireRecord l

/-- The 25 bytes of FETCH NOTICE's answer: the notice as `s` has it, and the pending count `count`
(R149, 11.4). -/
def State.noticeFields (s : State) (x : Session) (count : Nat) : Selected → List Byte
  | .record l r n =>
    [n.kind.code, natByte n.priority,
      presence [true, r.token.isSome, r.expiry.isSome, r.warn.isSome]] ++
      s.handleBytes l ++ wordBytes (s.keyOf r.resource) ++ [r.mode.code] ++
      optWordBytes r.token ++ optWordBytes r.expiry ++ optWordBytes r.warn ++
      [if n.kind = .ended then EndCause.code r.endCause else 0, natByte count]
  | .session k =>
    let expiry := if k = .sessionWarning then x.expiry else none
    [k.code, natByte (x.noticePriority k), presence [false, false, expiry.isSome, false]] ++
      List.replicate 8 0 ++ wordBytes 0 ++ optWordBytes expiry ++ wordBytes 0 ++
      [if k = .sessionLapsed then LapseCause.code x.lapseCause else 0, natByte count]

/-- R148 to R151. -/
def fetchNotice (p : PortIx) (args : List Byte) (s : State) : Answer :=
  match s.checkHandle p true (argSession args) with
  | .error e => s.refuse e
  | .ok (i, x) =>
    match s.selectNotice x with
    | none => s.refuse .none_
    | some n =>
      let s' := match x.noticeMode with
        | .fetchRetires => s.retire i n
        | .ackRequired => s
      { state := s', status := .ok, fields := s.noticeFields x (s'.pendingCount i) n }

/-- Checks 2 and 3 of R151 and the retirement, for a target whose pending notice has code `kind`. -/
def State.acknowledge (s : State) (i : SessSlot) (x : Session) (kind : Option Byte) (s' : State) : Answer :=
  if x.noticeMode = .fetchRetires then s.refuse .badState
  else
    match kind with
    | none => s.refuse .none_
    | some k => { state := s', status := .ok, fields := [k, natByte (s'.pendingCount i)] }

/-- R151. The lease bytes are examined only with target kind 1. -/
def ackNotice (p : PortIx) (args : List Byte) (s : State) : Answer :=
  if argByte args 3 = 1 then
    match s.checkHandles p true (argSession args) (argLease args 4) with
    | .error e => s.refuse e
    | .ok (i, x, l, r) => s.acknowledge i x (r.notice.map fun n => n.kind.code) (s.retireRecord l)
  else
    match s.checkHandle p true (argSession args) with
    | .error e => s.refuse e
    | .ok (i, x) =>
      if argByte args 3 = 0 then
        s.acknowledge i x (x.notice.map SessionNotice.code) (s.retireSession i)
      else s.refuse .badArg

/-- R146. -/
def setThreshold (_p : PortIx) (args : List Byte) (s : State) : Answer :=
  match ranged 5 (argByte args 0), ranged 8 (argByte args 1) with
  | some q, some t =>
    let s' := { s with thresholds := put s.thresholds q t }
    { state := s', status := .ok, fields := [natByte q, natByte t, boolByte (s'.noticeLevel q)] }
  | _, _ => s.refuse .badArg

/-- R155. -/
def readAlerts (_p : PortIx) (args : List Byte) (s : State) : Answer :=
  let start := (argByte args 0).toNat
  if 143 < start then s.refuse .badArg
  else
    let entries := (s.alerts.list.drop start).take 8
    { state := s
      status := .ok
      fields := natByte s.alerts.total :: natByte entries.length :: entries.flatten }

/-- Whether an alert is held (R154). -/
def Alerts.held (a : Alerts) : AlertName → Bool
  | .fenceFailed i => a.fenceFailed.get i
  | .generationSpent i => a.generationSpent.get i
  | .sessionLapsed i => (a.sessionLapsed.get i).isSome

/-- The set without an alert (R156). -/
def Alerts.remove (a : Alerts) : AlertName → Alerts
  | .fenceFailed i => { a with fenceFailed := put a.fenceFailed i false }
  | .generationSpent i => { a with generationSpent := put a.generationSpent i false }
  | .sessionLapsed i => { a with sessionLapsed := put a.sessionLapsed i none }

/-- R156. -/
def ackAlert (_p : PortIx) (args : List Byte) (s : State) : Answer :=
  match decodeAlert (argByte args 0) (argByte args 1) with
  | none => s.refuse .badArg
  | some n =>
    if s.alerts.held n then
      let a := s.alerts.remove n
      { state := { s with alerts := a }, status := .ok, fields := [natByte a.total] }
    else s.refuse .none_

/-- FETCH_NOTICE (R148). -/
def execFetchNotice (s : State) : Host.Outcome State Fault Refusal :=
  .next (s.command Code.fetchNotice 3 fetchNotice)

/-- ACK_NOTICE (R151). -/
def execAckNotice (s : State) : Host.Outcome State Fault Refusal :=
  .next (s.command Code.ackNotice 7 ackNotice)

/-- SET_THRESHOLD (R146). -/
def execSetThreshold (s : State) : Host.Outcome State Fault Refusal :=
  .next (s.management Code.setThreshold 2 setThreshold)

/-- READ_ALERTS (R155). -/
def execReadAlerts (s : State) : Host.Outcome State Fault Refusal :=
  .next (s.management Code.readAlerts 1 readAlerts)

/-- ACK_ALERT (R156). -/
def execAckAlert (s : State) : Host.Outcome State Fault Refusal :=
  .next (s.management Code.ackAlert 2 ackAlert)

end Sys2Proof.Machine
end

