-- ==== Sys2Proof/Machine/Ports.lean ====
section
/-! DEFINITION. Chapter 10: SPI transactions at the agent ports, I2C writes and reads at the management
port, RESET PORT, and the answers of the arbiter to frames that are no command. -/

namespace Sys2Proof.Machine

/-- The port index of an agent port. -/
def agentIx (p : AgentPort) : PortIx := p.castLE (by decide)

/-- The port index of the management port. -/
def mpIx : PortIx := 4

/-- The answer of a port to a malformed frame: FRAME_ERROR, echoing the first received byte, or 0 (R162). -/
def frameError (bytes : List Byte) : Reply := { code := bytes.headD 0, status := .frameError, fields := [] }

/-- A good RESET PORT frame, argument length 0 (R162, R165). -/
def Frame.resetsPort (f : Frame) : Bool := f.code = Code.resetPort && f.args.isEmpty

/-- RESET PORT taken at the port (R165). -/
def Port.taken (x : Port) : Port := { x with state := .idle, rejected := false, resetSeen := false }

/-- What a port does with the bytes of a frame when its transaction ends (R162, R163). -/
def Port.judge (x : Port) (bytes : List Byte) (loose : Nat) : Port :=
  match parseFrame bytes loose with
  | some f =>
    if f.resetsPort then x.taken
    else
      match x.state with
      | .idle => { x with state := .pending f, rejected := false, resetSeen := false }
      | _ => { x with rejected := true }
  | none =>
    match x.state with
    | .idle => { x with state := .ready (frameError bytes) }
    | _ => { x with rejected := true }

/-- A transaction whose chip select falls now: the status byte is captured (R161), and the transaction
is judged only if the start-up time has passed (R173, R178). -/
def State.beginTransaction (s : State) (p : PortIx) : Transaction :=
  { status := s.statusByte p, judged := s.started, sending := none }

/-- The transaction in progress at a port, or one whose chip select falls now. -/
def State.transactionAt (s : State) (p : PortIx) : Transaction :=
  (s.port p).transaction.getD (s.beginTransaction p)

/-- The fall of chip select at a port; one that is already low stays low. -/
def State.fall (s : State) (p : PortIx) : State :=
  s.setPort p { s.port p with transaction := some (s.transactionAt p) }

/-- The response that a port holds while it is READY (R158). -/
def Port.heldReply (x : Port) : Option Reply :=
  match x.state with
  | .ready r => some r
  | _ => none

/-- What the READ of a transaction sends: fixed when its type byte was complete, or now (R164). -/
def Transaction.replySent (t : Transaction) (x : Port) : Option Reply := t.sending.getD x.heldReply

/-- The bytes after the type byte that make a READ of a response whole: its length byte, its frame and
its CRC (R164). -/
def Reply.readLength (r : Reply) : Nat := r.bytes.length + 2

/-- The port after a READ that sent `held` and in which `clocked` bytes were clocked: a response read
whole is discarded (R164). A port that a warm reset has meanwhile made IDLE stays so (R172). -/
def Port.afterRead (x : Port) (held : Option Reply) (clocked : Nat) : Port :=
  match held, x.state with
  | some r, .ready _ => if r.readLength ≤ clocked then { x with state := .idle } else x
  | _, _ => x

/-- The rise of chip select at the end of a READ (R164, R172). -/
def State.riseRead (s : State) (p : PortIx) (clocked : Nat) : State :=
  let x := s.port p
  let t := s.transactionAt p
  let ended := { x with transaction := none }
  if t.judged then
    let held := t.replySent x
    s.setPort p
      { ended.afterRead held clocked with
        sent := some (t.status :: padded (responseStream held) clocked) }
  else s.setPort p { ended with sent := none }

/-- The rise of chip select at the end of a transaction that received `mosi`, its type byte first
(R161 to R163). With no whole byte no state changes. A transaction whose type byte has already been
complete as READ does not end as another type (log 2). A type byte that is neither COMMAND nor READ is
treated as STATUS, which changes no state. A transaction not judged is over without effect. -/
def State.riseCommand (s : State) (p : PortIx) (mosi : List Byte) (loose : Nat) : State :=
  let x := s.port p
  let t := s.transactionAt p
  let ended := { x with transaction := none }
  match mosi with
  | [] =>
    if t.sending.isSome then s
    else s.setPort p { ended with sent := if t.judged then some [] else none }
  | type :: bytes =>
    if type = typeRead then s.riseRead p bytes.length
    else if t.sending.isSome then s
    else if t.judged then
      let sent := some (t.status :: List.replicate bytes.length 0xFF)
      if type = typeCommand then s.setPort p { ended.judge bytes loose with sent := sent }
      else s.setPort p { ended with sent := sent }
    else s.setPort p { ended with sent := none }

/-- COMMAND_TRANSACTION (R161 to R163). -/
def execCommandTransaction (p : AgentPort) (phase : CommandPhase) (s : State) :
    Host.Outcome State Fault Refusal :=
  match phase with
  | .fall => .next (s.fall (agentIx p))
  | .rise mosi loose => .next (s.riseCommand (agentIx p) mosi loose)

/-- READ_TRANSACTION (R164). At the type byte what is sent is fixed; the rise ends the transaction. -/
def execReadTransaction (p : AgentPort) (phase : ReadPhase) (s : State) :
    Host.Outcome State Fault Refusal :=
  let i := agentIx p
  match phase with
  | .fall => .next (s.fall i)
  | .typed =>
    let t := s.transactionAt i
    .next (s.setPort i
      { s.port i with transaction := some { t with sending := some (t.replySent (s.port i)) } })
  | .rise clocked => .next (s.riseRead i clocked)

/-- The management port's 7-bit address (R166). -/
def State.mpAddress (s : State) : BitVec 7 := if s.addressStrap then 0x3B else 0x3A

/-- The bytes of a management write that count as received: the port acknowledges 27, and whether later
ones count is a free value (R166, log 5). -/
def receivedBytes (bytes : List Byte) : List Byte :=
  if bytes.length ≤ 27 then bytes
  else if Config.countsUnacknowledged then bytes else bytes.take 27

/-- A write of one frame to the management port (R166): not acknowledged in the start-up time (R178);
in PENDING or READY not acknowledged, and REJECTED is set; in IDLE received and judged as R162 gives. -/
def State.mpReceive (s : State) (bytes : List Byte) (loose : Nat) : State :=
  let x := s.port mpIx
  if s.started then
    match x.state with
    | .idle =>
      { s.setPort mpIx (x.judge (receivedBytes bytes) loose) with
        mpAcknowledged := 1 + min bytes.length 27 }
    | _ => { s.setPort mpIx { x with rejected := true } with mpAcknowledged := 0 }
  else { s with mpAcknowledged := 0 }

/-- MP_WRITE (R166). A write to another address is not the part's. -/
def execMpWrite (addr : BitVec 7) (bytes : List Byte) (loose : Nat) (s : State) :
    Host.Outcome State Fault Refusal :=
  if addr = s.mpAddress then .next (s.mpReceive bytes loose) else .next s

/-- MP_READ (R167): the status byte and what R164 gives; the response is consumed when every byte
through the CRC was read and the read ended with a not-acknowledge and a STOP. In the start-up time the
address is not acknowledged (R178). -/
def execMpRead (addr : BitVec 7) (count : Nat) (nackStop : Bool) (s : State) :
    Host.Outcome State Fault Refusal :=
  let x := s.port mpIx
  if addr = s.mpAddress ∧ s.started ∧ 1 ≤ count then
    let held := x.heldReply
    .next (s.setPort mpIx
      { x.afterRead held (if nackStop then count - 1 else 0) with
        sent := some (s.statusByte mpIx :: padded (responseStream held) (count - 1)) })
  else .next s

/-- A good RESET PORT frame as sent (11.2, 11.3). -/
def resetPortFrame : Frame := { code := Code.resetPort, args := [] }

/-- RESET_PORT (R165): a transaction that carries a good RESET PORT frame ends at the port. At the
management port, which acknowledges no address while it is busy, the frame reaches it in IDLE only
(R166). -/
def execResetPort (p : PortIx) (s : State) : Host.Outcome State Fault Refusal :=
  if p = mpIx then .next (s.mpReceive resetPortFrame.bytes 0)
  else .next (s.riseCommand p (typeCommand :: resetPortFrame.bytes) 0)

/-- UNKNOWN_COMMAND (R169 step 1). -/
def execUnknownCommand (s : State) : Host.Outcome State Fault Refusal :=
  .next (s.take (fun f => !commandCodes.contains f.code) fun _ _ s => s.refuse .unknownCommand)

/-- RESET_PORT_BAD_ARG (R165, R169 step 3): a RESET PORT frame with arguments reached the arbiter. -/
def execResetPortBadArg (s : State) : Host.Outcome State Fault Refusal :=
  .next (s.take (fun f => f.code = Code.resetPort && !f.args.isEmpty) fun _ _ s => s.refuse .badArg)

end Sys2Proof.Machine
end

