-- ==== Sys2Proof/Machine/Resets.lean ====
section
/-! DEFINITION. WARM RESET (R171 and the rules it gathers), the cold reset (R173 and the rules of each
block) and the end of the start-up time (R178). -/

namespace Sys2Proof.Machine

/-- Whether an entry is fenced at a warm reset: it has a profile and was HELD_EXCLUSIVE, FENCING or
FENCE_FAILED (R21). -/
def State.settlesFencing (s : State) (e : Entry) : Bool :=
  (s.profileOf e).isSome &&
    (e.state = .heldExclusive || e.state = .fencing || e.state = .fenceFailed)

/-- An entry after the settling of a warm reset (R20, R21): the generation advances unless it is
0xFFFFFFFF, the queue is empty, and a staged policy is applied. -/
def State.settled (s : State) (e : Entry) : Entry :=
  let e' := { e with
    generation := if e.generation = 0xFFFFFFFF then e.generation else e.generation + 1
    queue := [] }
  if s.settlesFencing e then e'.enterFencing else e'.enterFree

/-- The rebuilt fence queue: one job for each entry in FENCING, in ascending slot order (R121). -/
def State.rebuiltQueue (s : State) : List FenceJob :=
  (List.finRange 64).filterMap fun i =>
    (s.entry i).bind fun e =>
      if e.state = .fencing then (s.profileOf e).map fun p => freshJob i e p else none

/-- The controller at a warm reset: an attempt in TRANSFER is abandoned (R134). -/
def Bus.abandon (b : Bus) : Bus :=
  match b.state with
  | .transfer => { b with attempt := b.attempt.map fun a => { a with abandoned := true } }
  | _ => b

/-- A port at a warm reset (R171). The management port is then given the response. -/
def Port.warmReset (x : Port) : Port := { x with state := .idle, rejected := false, resetSeen := true }

/-- The tables and ports after a warm reset, before the head of the rebuilt queue starts (R171). -/
def State.warmReset (s : State) : State :=
  let t := { s with
    directory := s.directory.map (Option.map s.settled)
    leases := s.leases.map fun (c : LeaseCell) => { c with record := none }
    sessions := s.sessions.map fun (c : SessionCell) => { c with session := none }
    alerts := .empty
    bus := s.bus.abandon
    ports := s.ports.map Port.warmReset
    lastServed := 4 }
  { t with fenceQueue := t.rebuiltQueue }

/-- R171: the answer counts the jobs of the rebuilt queue (log 19). The alert set is emptied before the
head of that queue starts, so an attempt that fails for good at once leaves FENCE_FAILED held (log 22). -/
def warmReset (lines : BusLines) (_p : PortIx) (_args : List Byte) (s : State) : Answer :=
  let t := s.warmReset
  { state := t.startAttempt lines, status := .ok, fields := [natByte t.fenceQueue.length] }

/-- WARM_RESET (R171). -/
def execWarmReset (lines : BusLines) (s : State) : Host.Outcome State Fault Refusal :=
  .next (s.management Code.warmReset 0 (warmReset lines))

/-- A port after a cold reset in which a transaction was in progress: it is not judged (R173). -/
def Port.coldReset (x : Port) : Port :=
  { Port.reset with
    transaction := x.transaction.map fun t => { t with judged := false } }

/-- The part with every block at its cold-reset values (R173, R19, R39, R71, R101, R119, R122, R135,
R143, R153, R154), RESETN low or high, and the strap as latched. The queue of events is not the part's. -/
def State.coldReset (s : State) (low adr : Bool) : State :=
  { State.reset with
    ports := s.ports.map Port.coldReset
    addressStrap := adr
    resetLow := low
    pending := s.pending }

/-- COLD_RESET (R173): every block takes its cold-reset values when RESETN falls and has them when it
rises; the strap is read at the rise (R166). -/
def execColdReset (phase : ResetPhase) (s : State) : Host.Outcome State Fault Refusal :=
  match phase with
  | .fall => .next (s.coldReset true s.addressStrap)
  | .rise adr => .next (s.coldReset false adr)

/-- STARTUP_COMPLETE (R178): the ports accept transactions from now on. The start-up time runs from the
rise of RESETN, so it does not pass while RESETN is low. -/
def execStartupComplete (s : State) : Host.Outcome State Fault Refusal :=
  if s.resetLow then .next s else .next { s with started := true }

end Sys2Proof.Machine
end

