-- ==== Sys2Proof/Machine/Dispatch.lean ====
section
/-! DEFINITION. One arm for each command and event. -/

namespace Sys2Proof.Machine

/-- The effect of a command or event on everything but the queue of events. -/
def exec (i : Instr) (s : State) : Host.Outcome State Fault Refusal :=
  match i with
  -- transactions at the ports (chapter 10)
  | .commandTransaction port phase => Sys2Proof.Machine.execCommandTransaction port phase s
  | .readTransaction port phase => Sys2Proof.Machine.execReadTransaction port phase s
  | .mpWrite addr bytes loose => Sys2Proof.Machine.execMpWrite addr bytes loose s
  | .mpRead addr count nackStop => Sys2Proof.Machine.execMpRead addr count nackStop s
  | .resetPort port => Sys2Proof.Machine.execResetPort port s
  -- frames taken by the arbiter
  | .unknownCommand => Sys2Proof.Machine.execUnknownCommand s
  | .openSession => Sys2Proof.Machine.execOpenSession s
  | .keepalive => Sys2Proof.Machine.execKeepalive s
  | .closeSession => Sys2Proof.Machine.execCloseSession s
  | .acquire => Sys2Proof.Machine.execAcquire s
  | .release => Sys2Proof.Machine.execRelease s
  | .renew => Sys2Proof.Machine.execRenew s
  | .queryLease => Sys2Proof.Machine.execQueryLease s
  | .queryResource => Sys2Proof.Machine.execQueryResource s
  | .readClock => Sys2Proof.Machine.execReadClock s
  | .fetchNotice => Sys2Proof.Machine.execFetchNotice s
  | .ackNotice => Sys2Proof.Machine.execAckNotice s
  | .defineResource => Sys2Proof.Machine.execDefineResource s
  | .amendResource => Sys2Proof.Machine.execAmendResource s
  | .deleteResource => Sys2Proof.Machine.execDeleteResource s
  | .forceRevoke lines => Sys2Proof.Machine.execForceRevoke lines s
  | .clearFenceAccept => Sys2Proof.Machine.execClearFenceAccept s
  | .clearFenceRetry lines => Sys2Proof.Machine.execClearFenceRetry lines s
  | .clockStart => Sys2Proof.Machine.execClockStart s
  | .clockStop => Sys2Proof.Machine.execClockStop s
  | .setClock => Sys2Proof.Machine.execSetClock s
  | .purgeSession lines => Sys2Proof.Machine.execPurgeSession lines s
  | .setProfile => Sys2Proof.Machine.execSetProfile s
  | .setBus => Sys2Proof.Machine.execSetBus s
  | .setLine => Sys2Proof.Machine.execSetLine s
  | .setThreshold => Sys2Proof.Machine.execSetThreshold s
  | .readAlerts => Sys2Proof.Machine.execReadAlerts s
  | .ackAlert => Sys2Proof.Machine.execAckAlert s
  | .warmReset lines => Sys2Proof.Machine.execWarmReset lines s
  -- the lease clock and its marks
  | .tick periods => Sys2Proof.Machine.execTick periods s
  | .warnMarkReached lease => Sys2Proof.Machine.execWarnMarkReached lease s
  | .holdExpiry lease lines => Sys2Proof.Machine.execHoldExpiry lease lines s
  | .waitExpiry lease => Sys2Proof.Machine.execWaitExpiry lease s
  | .sessionWarning session => Sys2Proof.Machine.execSessionWarning session s
  | .sessionLapse session lines => Sys2Proof.Machine.execSessionLapse session lines s
  -- the enforcement bus
  | .attemptSuccess phase => Sys2Proof.Machine.execAttemptSuccess phase s
  | .attemptNack at_ lines => Sys2Proof.Machine.execAttemptNack at_ lines s
  | .readBackMismatch readBack lines => Sys2Proof.Machine.execReadBackMismatch readBack lines s
  | .stall at_ => Sys2Proof.Machine.execStall at_ s
  | .recoveryEnd pulses freed lines => Sys2Proof.Machine.execRecoveryEnd pulses freed lines s
  | .recoveryTimeout pulses lines => Sys2Proof.Machine.execRecoveryTimeout pulses lines s
  | .abandonedAttemptEnd at_ lines => Sys2Proof.Machine.execAbandonedAttemptEnd at_ lines s
  -- resets
  | .coldReset phase => Sys2Proof.Machine.execColdReset phase s
  | .startupComplete => Sys2Proof.Machine.execStartupComplete s
  | .resetPortBadArg => Sys2Proof.Machine.execResetPortBadArg s

end Sys2Proof.Machine
end

