-- ==== Sys2Proof/Safety.lean ====
section
/-! DEFINITION. The laws that the manual says the part keeps, as predicates on State, and the words in
which the statements of this package speak of frames, handles and events. -/

namespace Sys2Proof.Machine

/-! ### The directory (R1, R2, R3, R10, R12, R13) -/

/-- What the state of an entry says of its other fields (R2, 1.3, R3, R10). -/
def Entry.shaped (e : Entry) : Prop :=
  match e.state with
  | .free => e.holders = 0 ∧ e.exclusiveHolder = none ∧ e.queue = [] ∧ e.staged = none
  | .heldShared => 1 ≤ e.holders ∧ e.exclusiveHolder = none
  | .heldExclusive => e.holders = 1 ∧ e.exclusiveHolder ≠ none
  | .fencing => e.holders = 0 ∧ e.exclusiveHolder = none
  | .fenceFailed => e.holders = 0 ∧ e.exclusiveHolder = none

/-- The fields of a defined entry lie in the ranges of R2, and its profile is valid (R12). -/
def State.entryInRange (s : State) (e : Entry) : Prop :=
  e.key ≠ 0 ∧ e.current.term ≠ 0 ∧ (∀ q, e.staged = some q → q.term ≠ 0) ∧
    ∀ n, e.profile = some n → s.profiles.get n ≠ none

/-- The laws of the directory that speak of entries alone: ranges and shapes, no key twice (R1) and no
line twice (R13). -/
def State.directoryLaws (s : State) : Prop :=
  (∀ i e, s.entry i = some e → e.shaped ∧ s.entryInRange e) ∧
  (∀ i j e f, s.entry i = some e → s.entry j = some f → e.key = f.key → i = j) ∧
  ∀ i j e f b c, s.entry i = some e → s.entry j = some f → e.line = some b → f.line = some c →
    b.line = c.line → i = j

/-! ### Sessions and their records (R25, R84, R92) -/

/-- What the state of a session says of its optional fields (R84). -/
def Session.shaped (x : Session) : Prop :=
  match x.state with
  | .opened => x.expiry ≠ none ∧ x.notice = none ∧ x.lapseCause = none
  | .warned =>
    x.expiry ≠ none ∧ x.warn = none ∧ x.notice ≠ some .sessionLapsed ∧ x.lapseCause = none
  | .lapsed =>
    x.expiry = none ∧ x.warn = none ∧ x.records = [] ∧ x.notice = some .sessionLapsed ∧
      x.lapseCause = some .expired

/-- Every record belongs to one live session and stands once in its list, and no session is above its
quota (R25, R84, R92). -/
def State.ownershipLaws (s : State) : Prop :=
  (∀ l r, s.record l = some r →
    ∃ x, s.session r.session = some x ∧ x.state ≠ .lapsed ∧ l ∈ x.records) ∧
  ∀ i x, s.session i = some x →
    x.shaped ∧ x.records.Nodup ∧ x.records.length ≤ x.quota ∧
      ∀ l, l ∈ x.records → ∃ r, s.record l = some r ∧ r.session = i

/-- Every mark lies at most 65535 ticks ahead of the count; one that lies no tick ahead is reached at
the present count (R72, R73). -/
def State.markLaws (s : State) : Prop :=
  (∀ l m, some m ∈ (s.lease l).marks → (m - s.clock.count).toNat ≤ 65535) ∧
  ∀ i m, some m ∈ (s.sessionCell i).marks → (m - s.clock.count).toNat ≤ 65535

/-! ### Records and entries (R3, R6, R24, R26, R42, R50) -/

/-- What the state of a record says of its optional fields (R24). -/
def LeaseRecord.shaped (r : LeaseRecord) : Prop :=
  match r.state with
  | .waiting =>
    r.token = none ∧ r.expiry = none ∧ r.warn = none ∧ r.notice = none ∧ r.endCause = none ∧
      r.renewCount = 0
  | .active =>
    r.token ≠ none ∧ r.expiry ≠ none ∧ r.wait = none ∧ r.endCause = none ∧
      ∀ n, r.notice = some n → n.kind = .granted
  | .warned =>
    r.token ≠ none ∧ r.expiry ≠ none ∧ r.warn = none ∧ r.wait = none ∧ r.endCause = none ∧
      ∀ n, r.notice = some n → n.kind = .warning
  | .ended =>
    r.expiry = none ∧ r.warn = none ∧ r.wait = none ∧ r.endCause ≠ none ∧
      ∃ n, r.notice = some n ∧ n.kind = .ended

/-- The live records that name directory slot `i`. -/
def State.liveOn (s : State) (i : DirSlot) : List LeaseSlot :=
  (List.finRange 128).filter fun l => (s.record l).any fun r => r.live && r.resource = i

/-- What the entry `e` that record `r` of lease slot `l` names must say of it (R3, R26). -/
def LeaseRecord.fits (r : LeaseRecord) (l : LeaseSlot) (e : Entry) : Prop :=
  match r.state, r.mode with
  | .waiting, _ => l ∈ e.queue
  | .ended, _ => True
  | _, .shared => e.state = .heldShared
  | _, .exclusive => e.state = .heldExclusive ∧ e.exclusiveHolder = some l

/-- The laws between records and entries: R3, R24, R26, one claim of a session on a resource (R42), the
head of the queue of a shared entry (R50), and generations that can still advance (R6). -/
def State.recordLaws (s : State) : Prop :=
  (∀ l r, s.record l = some r →
    r.shaped ∧ ∃ e, s.entry r.resource = some e ∧ r.fits l e) ∧
  (∀ i e, s.entry i = some e →
    e.queue.Nodup ∧ e.holders = (s.liveOn i).length ∧ e.generation ≠ 0 ∧
      (e.state = .heldExclusive → e.generation ≠ 0xFFFFFFFF) ∧
      (∀ l, l ∈ e.queue → ∃ r, s.record l = some r ∧ r.state = .waiting ∧ r.resource = i) ∧
      (e.state = .heldShared → ∀ l r, e.queue.head? = some l → s.record l = some r →
        r.mode = .exclusive)) ∧
  ∀ l k r q, s.record l = some r → s.record k = some q → r.state ≠ .ended → q.state ≠ .ended →
    r.session = q.session → r.resource = q.resource → l = k

/-! ### The fence queue and the bus (R107, R108, R109, R125) -/

/-- A job's attempt count agrees with its state: a QUEUED job has an attempt left (R107, R111). -/
def FenceJob.shaped (j : FenceJob) : Prop :=
  match j.state with
  | .queued => j.attempts ≤ j.profile.retries.val
  | .inFlight => 1 ≤ j.attempts ∧ j.attempts ≤ 1 + j.profile.retries.val

/-- What the state of the bus controller says of its attempt record and of the head job (R109, R125,
R133, R134): IDLE, nothing is left to start; in TRANSFER the place reached lies in the sequence, and the
attempt is that of the head, which is IN_FLIGHT, unless it was abandoned; in RECOVERY the head waits. -/
def State.busFits (s : State) : Prop :=
  match s.bus.state with
  | .idle => s.bus.attempt = none ∧ s.bus.runSpeed = none ∧ s.fenceQueue = []
  | .transfer =>
    ∃ a, s.bus.attempt = some a ∧ a.position < a.sequence.length ∧
      if a.abandoned then ∀ j, s.fenceQueue.head? = some j → j.state = .queued
      else ∃ j, s.fenceQueue.head? = some j ∧ j.state = .inFlight ∧
        a = { j.attempt with position := a.position }
  | .recovery => ∀ j, s.fenceQueue.head? = some j → j.state = .queued

/-- The laws of the fence queue: an entry is in it exactly when it is FENCING, and then once (R108), and
no job but the head has started (R107, R109). -/
def State.fenceLaws (s : State) : Prop :=
  (s.fenceQueue.map FenceJob.resource).Nodup ∧
  (∀ i, i ∈ s.fenceQueue.map FenceJob.resource ↔ ∃ e, s.entry i = some e ∧ e.state = .fencing) ∧
  (∀ j, j ∈ s.fenceQueue → j.shaped) ∧
  (∀ j, j ∈ s.fenceQueue.tail → j.state = .queued ∧ j.attempts = 0) ∧
  s.busFits

/-- All the laws together: what the part keeps in every state that it reaches. -/
def State.lawful (s : State) : Prop :=
  s.directoryLaws ∧ s.ownershipLaws ∧ s.markLaws ∧ s.recordLaws ∧ s.fenceLaws

/-! ### The words of the statements -/

/-- Port `p` answers the frame it holds, of code `code`, and is the last served (R168, R177). -/
def State.answer (s : State) (p : PortIx) (code : Byte) (status : Status) (fields : List Byte) : State :=
  { s.setPort p { s.port p with state := .ready { code := code, status := status, fields := fields } } with
    lastServed := p }

/-- Slot `i` is the lowest of which `f` holds. -/
def isLowest {n : Nat} (f : Fin n → Prop) (i : Fin n) : Prop := f i ∧ ∀ j, f j → i ≤ j

/-- The received bytes are a malformed frame (R162): `loose` is the number of bits of a byte left
incomplete. -/
def malformed (bytes : List Byte) (loose : Nat) : Prop :=
  let n := bytes.length
  let len := (bytes.getD 1 0).toNat
  n < 2 ∨ 24 < len ∨ n < len + 3 ∨ len + 3 < n ∨ loose ≠ 0 ∨
    crc8 (bytes.take (n - 1)) ≠ bytes.getD (n - 1) 0

/-- What the part answers a malformed frame of an idle port with (R162). -/
def formatAnswer (bytes : List Byte) : PortState :=
  .ready { code := bytes.headD 0, status := .frameError, fields := [] }

/-- The transaction in which port `p` stands is `u`. Where chip select is not known to have fallen, the
event is the whole transaction, whose status byte is captured now (log 9). -/
def State.transacts (s : State) (p : PortIx) (u : Transaction) : Prop :=
  (s.port p).transaction = some u ∨
    ((s.port p).transaction = none ∧
      u = { status := s.statusByte p, judged := s.started, sending := none })

/-- The session handle at the head of the arguments names session `x` in slot `i`, bound to port `p`
(R37 steps 1 to 3). -/
def State.namesSession (s : State) (p : PortIx) (args : List Byte) (i : SessSlot) (x : Session) : Prop :=
  (argByte args 0).toNat = i.val ∧ s.session i = some x ∧ argHalf args 1 = (s.sessionCell i).tag ∧
    x.port = p

/-- The lease handle at place `k` of the arguments names record `r` in slot `l`, of session `i` (R37
steps 1, 5 and 6). -/
def State.namesLease (s : State) (args : List Byte) (k : Nat) (i : SessSlot) (l : LeaseSlot)
    (r : LeaseRecord) : Prop :=
  (argByte args k).toNat = l.val ∧ s.record l = some r ∧ argHalf args (k + 1) = (s.lease l).issue ∧
    r.session = i

/-- A session that is alive: OPEN or WARNED (R85). -/
def Session.alive (x : Session) : Prop := x.state ≠ .lapsed

/-- The commands that a LAPSED session does not refuse (R37 step 4). -/
def lapsedPasses (code : Byte) : Bool :=
  code = Code.fetchNotice || code = Code.ackNotice || code = Code.closeSession || code = Code.queryLease

/-- The first of steps 2 to 4 of R37 that refuses session slot `i` and tag `tag` from port `p`. -/
def State.sessionRefusal (s : State) (p : PortIx) (code : Byte) (i : SessSlot) (tag : Half) :
    Option Status :=
  match s.session i with
  | none => some .stale
  | some x =>
    if tag ≠ (s.sessionCell i).tag then some .stale
    else if x.port ≠ p then some .notOwner
    else if x.state = .lapsed ∧ lapsedPasses code = false then some .lapsed
    else none

/-- The first of steps 5 and 6 of R37 that refuses lease slot `l` and issue `issue` under session slot
`i`. -/
def State.leaseRefusal (s : State) (i : SessSlot) (l : LeaseSlot) (issue : Half) : Option Status :=
  match s.record l with
  | none => some .stale
  | some r =>
    if issue ≠ (s.lease l).issue then some .stale else if r.session ≠ i then some .notOwner else none

/-- The event of the opcode table in which the arbiter takes a frame (11.3): `lines` are the levels
that an attempt starting in it reads. -/
def Frame.event (f : Frame) (lines : BusLines) : Instr :=
  if f.code = Code.openSession then .openSession
  else if f.code = Code.keepalive then .keepalive
  else if f.code = Code.closeSession then .closeSession
  else if f.code = Code.acquire then .acquire
  else if f.code = Code.release then .release
  else if f.code = Code.renew then .renew
  else if f.code = Code.queryLease then .queryLease
  else if f.code = Code.queryResource then .queryResource
  else if f.code = Code.readClock then .readClock
  else if f.code = Code.fetchNotice then .fetchNotice
  else if f.code = Code.ackNotice then .ackNotice
  else if f.code = Code.resetPort then .resetPortBadArg
  else if f.code = Code.defineResource then .defineResource
  else if f.code = Code.amendResource then .amendResource
  else if f.code = Code.deleteResource then .deleteResource
  else if f.code = Code.forceRevoke then .forceRevoke lines
  else if f.code = Code.clearFence then
    if argByte f.args 4 = 1 then .clearFenceRetry lines else .clearFenceAccept
  else if f.code = Code.clockStart then .clockStart
  else if f.code = Code.clockStop then .clockStop
  else if f.code = Code.setClock then .setClock
  else if f.code = Code.purgeSession then .purgeSession lines
  else if f.code = Code.setProfile then .setProfile
  else if f.code = Code.setBus then .setBus
  else if f.code = Code.setLine then .setLine
  else if f.code = Code.setThreshold then .setThreshold
  else if f.code = Code.readAlerts then .readAlerts
  else if f.code = Code.ackAlert then .ackAlert
  else if f.code = Code.warmReset then .warmReset lines
  else .unknownCommand

/-- The values after a cold reset that left the strap at `adr` (R19, R39, R71, R101, R119, R122, R135,
R143, R153, R154, R173, R166, R178). -/
def State.coldValues (t : State) (adr : Bool) : Prop :=
  (∀ i, t.entry i = none) ∧ (∀ l, t.lease l = { issue := 0, record := none }) ∧
  (∀ i, t.sessionCell i = { tag := 0, session := none }) ∧
  t.clock = { count := 0, divider := 2, state := .stopped, periods := 0 } ∧
  t.fenceQueue = [] ∧ (∀ n, t.profiles.get n = none) ∧
  (t.bus.state = .idle ∧ t.bus.speed = .khz100 ∧ t.bus.attempt = none ∧ t.bus.runSpeed = none) ∧
  (∀ n, t.lines.get n = { polarity := .activeHigh, enabled := false } ∧ t.lineHigh n = false) ∧
  (∀ p, t.thresholds.get p = 0 ∧ t.noticeLevel p = false) ∧ (∀ p, t.ntfHigh p = true) ∧
  (t.alerts.total = 0 ∧ t.alrtHigh = true) ∧
  (∀ p, (t.port p).state = .idle ∧ (t.port p).rejected = false ∧ (t.port p).resetSeen = false ∧
    ∀ u, (t.port p).transaction = some u → u.judged = false) ∧
  t.lastServed = 4 ∧ t.mpAddress = (if adr then 0x3B else 0x3A) ∧ t.started = false

/-- Session `x` already has a record in WAITING, ACTIVE or WARNED on slot `d` (R42). -/
def State.claims (s : State) (x : Session) (d : DirSlot) : Prop :=
  ∃ l r, l ∈ x.records ∧ s.record l = some r ∧ r.resource = d ∧ r.state ≠ .ended

/-- The ACQUIRE with arguments `args` from port `p` passes steps 1 to 3 of R41: it names the live
session `x` of slot `i`, the mode, and the entry `e` of slot `d`. -/
def State.acquireNames (s : State) (p : PortIx) (args : List Byte) (mode : LeaseMode) (i : SessSlot)
    (x : Session) (d : DirSlot) (e : Entry) : Prop :=
  args.length = 10 ∧ argByte args 7 = mode.code ∧ s.namesSession p args i x ∧ x.alive ∧
    s.findKey (argWord args 3) = some (d, e)

/-- An ACQUIRE passes every check of R41, and lease slot `l` is the lowest VACANT one (R22). -/
def State.acquirePasses (s : State) (p : PortIx) (args : List Byte) (mode : LeaseMode) (i : SessSlot)
    (x : Session) (d : DirSlot) (e : Entry) (l : LeaseSlot) : Prop :=
  s.acquireNames p args mode i x d e ∧ ¬ s.claims x d ∧ ¬ (mode = .exclusive ∧ e.spent = true) ∧
    s.recordCount x ≠ x.quota ∧ isLowest (fun k => s.record k = none) l

/-- A request in `mode` on entry `e` is grantable at once (R45). -/
def Entry.takesAtOnce (e : Entry) (mode : LeaseMode) : Prop :=
  e.queue = [] ∧ (e.state = .free ∨ (e.state = .heldShared ∧ mode = .shared))

/-- A profile byte spells `n`: 0xFF for none (R176). -/
def spellsProfile (b : Byte) (n : Option ProfileNo) : Prop :=
  (b = 0xFF ∧ n = none) ∨ (b ≠ 0xFF ∧ ∃ k, n = some k ∧ k.val = b.toNat)

/-- A line byte with its line mode byte spells the binding `b`: 0xFF for none (R176). -/
def spellsLine (line mode : Byte) (b : Option LineBinding) : Prop :=
  (line = 0xFF ∧ b = none) ∨
    (line ≠ 0xFF ∧ ∃ k, b = some k ∧ k.line.val = line.toNat ∧ k.mode.code = mode)

/-- A profile byte names no profile that can be bound: above 7 or not valid (R14 step 1, R12). -/
def State.profileByteBad (s : State) (b : Byte) : Prop :=
  b ≠ 0xFF ∧ ∀ k : ProfileNo, k.val = b.toNat → s.profiles.get k = none

/-- A line byte with its mode byte is out of range (R14 step 1, R176). -/
def lineBytesBad (line mode : Byte) : Prop := line ≠ 0xFF ∧ (15 < line.toNat ∨ 1 < mode.toNat)

/-- A defined entry in a slot other than `self` holds the line that a byte names (R13). -/
def State.lineByteTaken (s : State) (self : Option DirSlot) (line : Byte) : Prop :=
  line ≠ 0xFF ∧ ∃ j f b, some j ≠ self ∧ s.entry j = some f ∧ f.line = some b ∧ b.line.val = line.toNat

/-- The command codes of 11.3 with their argument lengths, and whether the command is a management
command. -/
def commandTable : List (Byte × Nat × Bool) :=
  [(0x01, 7, false), (0x02, 3, false), (0x03, 3, false), (0x04, 10, false), (0x05, 6, false),
   (0x06, 6, false), (0x07, 6, false), (0x08, 4, false), (0x09, 0, false), (0x0A, 3, false),
   (0x0B, 7, false), (0x0F, 0, false), (0x21, 13, true), (0x22, 14, true), (0x23, 4, true),
   (0x24, 4, true), (0x25, 5, true), (0x28, 0, true), (0x29, 0, true), (0x2A, 5, true),
   (0x2C, 1, true), (0x30, 8, true), (0x31, 1, true), (0x34, 3, true), (0x38, 2, true),
   (0x39, 1, true), (0x3A, 2, true), (0x3F, 0, true)]

end Sys2Proof.Machine
end

