-- ==== Sys2Proof/Certificates/Slice0/Obligations.lean ====
section
/-! DEFINITION. The statements about the LA4-128, for the provers. -/

open Sys2Proof Sys2Proof.Machine

/-! ### Steps, resets and the start-up time -/

/-- A step takes the event at the front of the queue with the queue's rest; on an empty queue nothing
comes about (the model's schedule, log 1). -/
def Obligations.StepTakesTheFrontOfTheQueue : Prop :=
  (∀ (c : Instr) (rest : List Instr) (s : State),
    step { s with pending := c :: rest } = exec c { s with pending := rest }) ∧
  ∀ s : State, s.pending = [] → step s = .next s

/-- Every command and event answers a next state and leaves the queue of events as it is: no event of
the manual stops the part (log 2 for the events that do not come about). -/
def Obligations.EveryEventAnswersAndLeavesTheQueue : Prop :=
  ∀ (c : Instr) (s : State), ∃ t, exec c s = .next t ∧ t.pending = s.pending

/-- Every block has its cold-reset values when RESETN falls and when it rises, which reads the strap, and
a transaction in progress goes on, not judged; an agent port drives MISO while its chip select is low,
and never while RESETN is low. State.reset has the same values with RESETN high and the strap low (log 6,
log 7; that a rise with no fall before it is the whole reset: log 16). -/
def Obligations.ColdResetTakesEveryBlockToItsValues : Prop :=
  (∀ (s : State) (adr : Bool), ∃ t, exec (.coldReset (.rise adr)) s = .next t ∧ t.coldValues adr ∧
    t.resetLow = false ∧
    ∀ p, (t.port p).transaction = none ↔ (s.port p).transaction = none) ∧
  (∀ s : State, ∃ t, exec (.coldReset .fall) s = .next t ∧ t.coldValues s.addressStrap ∧
    t.resetLow = true ∧ (∀ p : AgentPort, t.misoDriven p = false) ∧
    ∀ p, (t.port p).transaction = none ↔ (s.port p).transaction = none) ∧
  (∀ (s : State) (p : AgentPort), s.misoDriven p = true ↔
    s.resetLow = false ∧ (s.port (agentIx p)).transaction ≠ none) ∧
  State.reset.coldValues false ∧ State.reset.resetLow = false

/-- In the start-up time a management write and a management read are not acknowledged and change no
port (log 17), and a transaction that begins is not judged. A transaction that is not judged changes
nothing at its rise, whatever its type and bytes and whenever the rise comes, but that it is over, and
`sent` is none. STARTUP_COMPLETE ends the start-up time, which runs from the rise of RESETN, and changes
nothing else (R173, R178). That `mpAcknowledged` is 0 and `sent` none is the model's choice (log 10), as
are a rise with no fall before it (log 9) and a rise that is not a READ's once the type byte was (log
2). -/
def Obligations.PortsAcceptNothingBeforeStartupCompletes : Prop :=
  (∀ s : State, s.resetLow = false → exec .startupComplete s = .next { s with started := true }) ∧
  (∀ s : State, s.resetLow = true → exec .startupComplete s = .next s) ∧
  (∀ s : State, s.started = false →
    (∀ bytes loose, exec (.mpWrite s.mpAddress bytes loose) s = .next { s with mpAcknowledged := 0 }) ∧
    exec (.resetPort 4) s = .next { s with mpAcknowledged := 0 } ∧
    (∀ count stop, exec (.mpRead s.mpAddress count stop) s = .next s) ∧
    ∀ p : AgentPort, (s.port (agentIx p)).transaction = none →
      ∃ u, u.judged = false ∧ u.sending = none ∧
        let t := s.setPort (agentIx p) { s.port (agentIx p) with transaction := some u }
        exec (.commandTransaction p .fall) s = .next t ∧ exec (.readTransaction p .fall) s = .next t) ∧
  ∀ (s : State) (p : AgentPort) (u : Transaction), s.transacts (agentIx p) u → u.judged = false →
    let ended := Host.Outcome.next (s.setPort (agentIx p)
      { s.port (agentIx p) with transaction := none, sent := none })
    (∀ clocked, exec (.readTransaction p (.rise clocked)) s = ended) ∧
    (∀ bytes loose, exec (.commandTransaction p (.rise (0xA5 :: bytes) loose)) s = ended) ∧
    (u.sending = none →
      (∀ mosi loose, exec (.commandTransaction p (.rise mosi loose)) s = ended) ∧
      exec (.resetPort (agentIx p)) s = ended)

/-! ### Transactions at the ports (chapter 10) -/

/-- R162. A COMMAND transaction that ends while the port is IDLE: a malformed frame is answered
FRAME_ERROR by the port with REJECTED and RESET_SEEN as they were, a good RESET PORT frame is taken at
the port (R165), and any other good frame is held with both flags cleared. `sent` records the bytes that
R161 sends meanwhile (log 10); a rise with no fall before it is the whole transaction (log 9). -/
def Obligations.CommandFrameIsJudgedInIdle : Prop :=
  ∀ (s : State) (p : AgentPort) (x : Port) (u : Transaction) (bytes : List Byte) (loose : Nat),
    x = s.port (agentIx p) → s.transacts (agentIx p) u → u.judged = true → u.sending = none →
    x.state = .idle →
    let sent := some (u.status :: List.replicate bytes.length 0xFF)
    let rise := exec (.commandTransaction p (.rise (0xC1 :: bytes) loose)) s
    (malformed bytes loose →
      rise = .next (s.setPort (agentIx p)
        { x with state := formatAnswer bytes, transaction := none, sent := sent })) ∧
    (¬ malformed bytes loose → bytes.headD 0 = 0x0F ∧ bytes.getD 1 0 = 0 →
      rise = .next (s.setPort (agentIx p)
        { state := .idle, rejected := false, resetSeen := false, transaction := none, sent := sent })) ∧
    (¬ malformed bytes loose → ¬ (bytes.headD 0 = 0x0F ∧ bytes.getD 1 0 = 0) →
      rise = .next (s.setPort (agentIx p)
        { state := .pending { code := bytes.headD 0, args := (bytes.drop 2).dropLast }
          rejected := false, resetSeen := false, transaction := none, sent := sent }))

/-- R163. A COMMAND transaction that ends while the port is PENDING or READY: a good RESET PORT frame is
taken at the port (R165); every other frame, good or malformed, is discarded, REJECTED is set, and the
held frame or held response is kept. `sent` records the bytes that R161 sends meanwhile (log 10); a rise
with no fall before it is the whole transaction (log 9). -/
def Obligations.CommandFrameIsDiscardedAtABusyPort : Prop :=
  ∀ (s : State) (p : AgentPort) (x : Port) (u : Transaction) (bytes : List Byte) (loose : Nat),
    x = s.port (agentIx p) → s.transacts (agentIx p) u → u.judged = true → u.sending = none →
    x.state ≠ .idle →
    let sent := some (u.status :: List.replicate bytes.length 0xFF)
    let rise := exec (.commandTransaction p (.rise (0xC1 :: bytes) loose)) s
    (¬ malformed bytes loose ∧ bytes.headD 0 = 0x0F ∧ bytes.getD 1 0 = 0 →
      rise = .next (s.setPort (agentIx p)
        { state := .idle, rejected := false, resetSeen := false, transaction := none, sent := sent })) ∧
    (¬ (¬ malformed bytes loose ∧ bytes.headD 0 = 0x0F ∧ bytes.getD 1 0 = 0) →
      rise = .next (s.setPort (agentIx p)
        { x with rejected := true, transaction := none, sent := sent }))

/-- R164. What a READ sends is fixed when its type byte is complete: the held response in READY, a
length of 0 otherwise. At its rise a READ that began in READY discards the response, and the port goes
to IDLE, when every byte through the CRC was clocked; with fewer bytes, or when the READ began in IDLE
or PENDING, the port keeps its state. A port that is no longer READY at the rise stays as it is (R172).
That the bytes sent are recorded in `sent` is the model's choice (log 10), and so is the cut of a
transaction into its moments (log 9): where the type byte was not taken apart, the state at the rise
decides, and a transaction whose bytes begin with the type byte of a READ is one. -/
def Obligations.ReadSendsTheHeldResponse : Prop :=
  (∀ (s : State) (p : AgentPort) (x : Port) (u : Transaction),
    x = s.port (agentIx p) → s.transacts (agentIx p) u →
    (∀ r, u.sending = none → x.state = .ready r →
      exec (.readTransaction p .typed) s = .next (s.setPort (agentIx p)
        { x with transaction := some { u with sending := some (some r) } })) ∧
    (u.sending = none → (∀ r, x.state ≠ .ready r) →
      exec (.readTransaction p .typed) s = .next (s.setPort (agentIx p)
        { x with transaction := some { u with sending := some none } })) ∧
    ∀ clocked : Nat, u.judged = true →
      (∀ r : Reply, u.sending = some (some r) ∨ (u.sending = none ∧ x.state = .ready r) →
        let frame := r.code :: r.status.code :: r.fields
        let covered := natByte frame.length :: frame
        exec (.readTransaction p (.rise clocked)) s = .next (s.setPort (agentIx p)
          { x with
            state := match x.state with
              | .ready q => if frame.length + 2 ≤ clocked then .idle else .ready q
              | y => y
            transaction := none
            sent := some (u.status ::
              (covered ++ [crc8 covered] ++ List.replicate clocked 0xFF).take clocked) })) ∧
      (u.sending = some none ∨ (u.sending = none ∧ ∀ r, x.state ≠ .ready r) →
        exec (.readTransaction p (.rise clocked)) s = .next (s.setPort (agentIx p)
          { x with
            transaction := none
            sent := some (u.status :: ([(0 : Byte)] ++ List.replicate clocked 0xFF).take clocked) }))) ∧
  ∀ (s : State) (p : AgentPort) (bytes : List Byte) (loose : Nat),
    exec (.commandTransaction p (.rise (0xA5 :: bytes) loose)) s =
      exec (.readTransaction p (.rise bytes.length)) s

/-- At the fall of chip select the status byte is captured, and the transaction will be judged if the
start-up time has passed; a transaction whose type byte is neither COMMAND nor READ, or is not complete
at the rise, changes no state of the port; and the status byte carries PENDING, READY, REJECTED, NOTICE,
RESET_SEEN and, at the management port, ALERT in bits 0 to 5, with bits 6 and 7 clear (R159, R161, R174).
The model's choices: `sent` records the bytes sent (log 10); a rise with no fall before it is the whole
transaction (log 9); a second fall, and a rise that is not a READ's once the type byte was, do not come
about (log 2). -/
def Obligations.StatusByteIsCapturedAtTheFall : Prop :=
  (∀ (s : State) (p : AgentPort), (s.port (agentIx p)).transaction = none →
    let t := s.setPort (agentIx p)
      { s.port (agentIx p) with
        transaction := some
          { status := s.statusByte (agentIx p), judged := s.started, sending := none } }
    exec (.commandTransaction p .fall) s = .next t ∧ exec (.readTransaction p .fall) s = .next t) ∧
  (∀ (s : State) (p : AgentPort) (u : Transaction), (s.port (agentIx p)).transaction = some u →
    exec (.commandTransaction p .fall) s = .next s ∧ exec (.readTransaction p .fall) s = .next s) ∧
  (∀ (s : State) (p : AgentPort) (u : Transaction) (loose : Nat),
    s.transacts (agentIx p) u → u.judged = true → u.sending = none →
    (∀ (type : Byte) (bytes : List Byte), type ≠ 0xC1 → type ≠ 0xA5 →
      exec (.commandTransaction p (.rise (type :: bytes) loose)) s =
        .next (s.setPort (agentIx p)
          { s.port (agentIx p) with
            transaction := none
            sent := some (u.status :: List.replicate bytes.length 0xFF) })) ∧
    exec (.commandTransaction p (.rise [] loose)) s =
      .next (s.setPort (agentIx p) { s.port (agentIx p) with transaction := none, sent := some [] })) ∧
  (∀ (s : State) (p : AgentPort) (u : Transaction) (mosi : List Byte) (loose : Nat),
    (s.port (agentIx p)).transaction = some u → u.sending ≠ none → mosi.head? ≠ some 0xA5 →
      exec (.commandTransaction p (.rise mosi loose)) s = .next s) ∧
  ∀ (s : State) (p : PortIx),
    ((s.statusByte p).getLsbD 0 = true ↔ ∃ f, (s.port p).state = .pending f) ∧
    ((s.statusByte p).getLsbD 1 = true ↔ ∃ r, (s.port p).state = .ready r) ∧
    (s.statusByte p).getLsbD 2 = (s.port p).rejected ∧
    (s.statusByte p).getLsbD 3 = s.noticeLevel p ∧
    (s.statusByte p).getLsbD 4 = (s.port p).resetSeen ∧
    ((s.statusByte p).getLsbD 5 = true ↔ p = 4 ∧ 0 < s.alerts.total) ∧
    (s.statusByte p).getLsbD 6 = false ∧ (s.statusByte p).getLsbD 7 = false

/-- R166. A write to the management port: in PENDING or READY the address is not acknowledged, nothing
is received and REJECTED is set; in IDLE the address and up to 27 bytes are acknowledged, and the
received bytes are judged as R162 gives. Whether bytes beyond the 27th count as received is a free value
of the model (log 5): the statement holds for both. `mpAcknowledged` records how many bytes were
acknowledged (log 10). -/
def Obligations.ManagementWriteIsJudgedOrRefused : Prop :=
  ∀ (s : State) (x : Port) (bytes : List Byte) (loose : Nat),
    x = s.port 4 → s.started = true →
    let write := exec (.mpWrite (if s.addressStrap then 0x3B else 0x3A) bytes loose) s
    let acknowledged := 1 + min bytes.length 27
    (x.state ≠ .idle →
      write = .next { s.setPort 4 { x with rejected := true } with mpAcknowledged := 0 }) ∧
    (x.state = .idle → ∃ got : List Byte,
      (got = bytes ∨ 27 < bytes.length ∧ got = bytes.take 27) ∧
      (malformed got loose →
        write = .next { s.setPort 4 { x with state := formatAnswer got } with
          mpAcknowledged := acknowledged }) ∧
      (¬ malformed got loose → got.headD 0 = 0x0F ∧ got.getD 1 0 = 0 →
        write = .next { s.setPort 4 { x with rejected := false, resetSeen := false } with
          mpAcknowledged := acknowledged }) ∧
      (¬ malformed got loose → ¬ (got.headD 0 = 0x0F ∧ got.getD 1 0 = 0) →
        write = .next
          { s.setPort 4
              { x with
                state := .pending { code := got.headD 0, args := (got.drop 2).dropLast }
                rejected := false
                resetSeen := false } with
            mpAcknowledged := acknowledged })) ∧
    ∀ addr, addr ≠ s.mpAddress → exec (.mpWrite addr bytes loose) s = .next s

/-- R167. A read from the management port sends the status byte, then in READY the response length, the
response frame and its CRC, in IDLE or PENDING a length of 0, and 0xFF beyond; the response is consumed
when every byte through the CRC was read and the read ended with a not-acknowledge and a STOP. `sent`
records the bytes sent (log 10). -/
def Obligations.ManagementReadConsumesAWholeResponse : Prop :=
  ∀ (s : State) (x : Port) (count : Nat) (nackStop : Bool),
    x = s.port 4 → s.started = true → 1 ≤ count →
    let read := exec (.mpRead (if s.addressStrap then 0x3B else 0x3A) count nackStop) s
    (∀ r, x.state = .ready r →
      let frame := r.code :: r.status.code :: r.fields
      let covered := natByte frame.length :: frame
      read = .next (s.setPort 4
        { x with
          state := if nackStop = true ∧ frame.length + 3 ≤ count then .idle else .ready r
          sent := some (s.statusByte 4 ::
            (covered ++ [crc8 covered] ++ List.replicate (count - 1) 0xFF).take (count - 1)) })) ∧
    ((∀ r, x.state ≠ .ready r) →
      read = .next (s.setPort 4
        { x with
          sent := some (s.statusByte 4 ::
            ([(0 : Byte)] ++ List.replicate (count - 1) 0xFF).take (count - 1)) })) ∧
    ∀ addr, addr ≠ s.mpAddress → exec (.mpRead addr count nackStop) s = .next s

/-- RESET PORT takes the port to IDLE whatever it holds, with REJECTED and RESET_SEEN cleared; at the
management port, which receives it in IDLE only, it clears the two flags; with arguments it is answered
BAD_ARG by the arbiter (R165, R166, R169). The row stands for the whole transaction that carries the
frame (log 20), with its fall where none came before (log 9), and it does not come about in a transaction
that has been a READ's since its type byte (log 2); `sent` and `mpAcknowledged` record what the port sent
and acknowledged (log 10). -/
def Obligations.ResetPortIsTakenAtThePort : Prop :=
  (∀ (s : State) (p : AgentPort) (u : Transaction),
    s.transacts (agentIx p) u → u.judged = true → u.sending = none →
      exec (.resetPort (agentIx p)) s = .next (s.setPort (agentIx p)
        { state := .idle, rejected := false, resetSeen := false, transaction := none
          sent := some [u.status, 0xFF, 0xFF, 0xFF] })) ∧
  (∀ (s : State) (p : AgentPort) (u : Transaction),
    (s.port (agentIx p)).transaction = some u → u.sending ≠ none →
      exec (.resetPort (agentIx p)) s = .next s) ∧
  (∀ s : State, s.started = true → (s.port 4).state = .idle →
    exec (.resetPort 4) s = .next
      { s.setPort 4 { s.port 4 with rejected := false, resetSeen := false } with
        mpAcknowledged := 4 }) ∧
  (∀ s : State, s.started = true → (s.port 4).state ≠ .idle →
    exec (.resetPort 4) s = .next
      { s.setPort 4 { s.port 4 with rejected := true } with mpAcknowledged := 0 }) ∧
  ∀ (s : State) (p : PortIx) (args : List Byte),
    s.nextTake = some (p, ⟨0x0F, args⟩) → args ≠ [] →
      exec .resetPortBadArg s = .next (s.answer p 0x0F .badArg [])

/-! ### The arbiter (chapter 10) -/

/-- R168. The arbiter takes the first PENDING port in the order that starts after the last-served one
and wraps from 4 to 0. The event of that port's frame leaves a response to the frame in that port, makes
it the last served, and, but for WARM RESET, leaves every other port as it was. CLOCK STOP is not taken
while a mark that the last tick reached is still due (log 3). A row of the table takes no frame but its
own (log 2). -/
def Obligations.ArbiterServesThePortsInRotation : Prop :=
  (∀ s : State, s.nextTake = none ↔ ∀ p f, (s.port p).state ≠ .pending f) ∧
  (∀ (s : State) (p : PortIx) (f : Frame), s.nextTake = some (p, f) ↔
    (s.port p).state = .pending f ∧ ∃ k : Fin 5, p = s.lastServed + 1 + k ∧
      ∀ j : Fin 5, j < k → ∀ g, (s.port (s.lastServed + 1 + j)).state ≠ .pending g) ∧
  (∀ (s : State) (p : PortIx) (f : Frame) (lines : BusLines), s.nextTake = some (p, f) →
    ¬ (f.code = Code.resetPort ∧ f.args = []) → ¬ (f.code = Code.clockStop ∧ s.markDue = true) →
    ∃ t r, exec (f.event lines) s = .next t ∧ (t.port p).state = .ready r ∧ r.code = f.code ∧
      t.lastServed = p ∧ (f.code ≠ Code.warmReset → ∀ q, q ≠ p → t.port q = s.port q)) ∧
  ∀ (s : State) (c : Instr), (∃ g lines, c = Frame.event g lines) →
    (∀ p f lines, s.nextTake = some (p, f) → c ≠ f.event lines) → exec c s = .next s

/-- R169. The three checks before every command, in their order: a code that is no command code is
answered UNKNOWN_COMMAND, a management command from an agent port DENIED, and an argument length that is
not the command's BAD_ARG; no table changes. -/
def Obligations.FramesAreCheckedBeforeEveryCommand : Prop :=
  ∀ (s : State) (p : PortIx) (f : Frame) (lines : BusLines), s.nextTake = some (p, f) →
    (f.code ∉ commandTable.map Prod.fst →
      f.event lines = .unknownCommand ∧
        exec .unknownCommand s = .next (s.answer p f.code .unknownCommand [])) ∧
    ∀ len management, (f.code, len, management) ∈ commandTable →
      (management = true → p ≠ 4 →
        exec (f.event lines) s = .next (s.answer p f.code .denied [])) ∧
      (¬ (management = true ∧ p ≠ 4) → f.args.length ≠ len →
        exec (f.event lines) s = .next (s.answer p f.code .badArg []))

/-- R37. The handle checks in their order, for every command that carries handles: the first failure is
answered with no change to any table. ACQUIRE, whose first step has a check of its own, is in
AcquireIsCheckedInOrder. -/
def Obligations.HandlesAreCheckedInOrder : Prop :=
  ∀ (s : State) (p : PortIx) (code : Byte) (args : List Byte) (lines : BusLines),
    s.nextTake = some (p, ⟨code, args⟩) →
    let run := exec (Frame.event ⟨code, args⟩ lines) s
    ((code ∈ [Code.keepalive, Code.closeSession, Code.fetchNotice] ∧ args.length = 3) ∨
        (code = Code.ackNotice ∧ args.length = 7 ∧ argByte args 3 ≠ 1) →
      (16 ≤ (argByte args 0).toNat → run = .next (s.answer p code .badArg [])) ∧
      ∀ (i : SessSlot) (e : Status), (argByte args 0).toNat = i.val →
        s.sessionRefusal p code i (argHalf args 1) = some e →
        run = .next (s.answer p code e [])) ∧
    ∀ k : Nat, (code ∈ [Code.release, Code.renew, Code.queryLease] ∧ args.length = 6 ∧ k = 3) ∨
        (code = Code.ackNotice ∧ args.length = 7 ∧ argByte args 3 = 1 ∧ k = 4) →
      (16 ≤ (argByte args 0).toNat ∨ 128 ≤ (argByte args k).toNat →
        run = .next (s.answer p code .badArg [])) ∧
      ∀ (i : SessSlot) (l : LeaseSlot), (argByte args 0).toNat = i.val →
        (argByte args k).toNat = l.val →
        (∀ e, s.sessionRefusal p code i (argHalf args 1) = some e →
          run = .next (s.answer p code e [])) ∧
        ∀ e, s.sessionRefusal p code i (argHalf args 1) = none →
          s.leaseRefusal i l (argHalf args (k + 1)) = some e →
          run = .next (s.answer p code e [])

/-- A key names the one entry that holds it, and the five commands that look up a key before any other
check of their own answer NO_RESOURCE, with no change, when no defined entry holds it (R1, R15, R17,
R18, R105, R115). That AMEND RESOURCE answers so also with bit 6 or 7 of its named-field byte set is the
model's order of the checks (log 14, DEDUCED). -/
def Obligations.KeysNameEntries : Prop :=
  (∀ (s : State) (key : Word), s.findKey key = none ↔ ∀ i e, s.entry i = some e → e.key ≠ key) ∧
  (∀ (s : State) (key : Word) (i : DirSlot) (e : Entry), s.directoryLaws →
    (s.findKey key = some (i, e) ↔ s.entry i = some e ∧ e.key = key)) ∧
  ∀ (s : State) (p : PortIx) (code : Byte) (args : List Byte) (lines : BusLines),
    s.nextTake = some (p, ⟨code, args⟩) →
    (code = Code.amendResource ∧ p = 4 ∧ args.length = 14) ∨
      (code = Code.deleteResource ∧ p = 4 ∧ args.length = 4) ∨
      (code = Code.queryResource ∧ args.length = 4) ∨
      (code = Code.forceRevoke ∧ p = 4 ∧ args.length = 4) ∨
      (code = Code.clearFence ∧ p = 4 ∧ args.length = 5 ∧ (argByte args 4).toNat ≤ 1) →
    (∀ i e, s.entry i = some e → e.key ≠ argWord args 0) →
    exec (Frame.event ⟨code, args⟩ lines) s = .next (s.answer p code .noResource [])

/-! ### Sessions (chapter 5) -/

/-- R86, R87, R88. OPEN SESSION: BAD_ARG, then SESSIONS_FULL, and otherwise the lowest VACANT slot is
taken with the next tag. That the bits of the presence byte which R177 does not name are 0 is the
model's choice (log 25). -/
def Obligations.OpenSessionTakesTheLowestVacantSlot : Prop :=
  ∀ (s : State) (p : PortIx) (args : List Byte),
    s.nextTake = some (p, ⟨Code.openSession, args⟩) → args.length = 7 →
    let term := argHalf args 0
    let lead := argHalf args 2
    let quota := (argByte args 6).toNat
    let bad := term = 0 ∨ 7 < (argByte args 4).toNat ∨ 1 < (argByte args 5).toNat ∨ 128 < quota
    (bad → exec .openSession s = .next (s.answer p Code.openSession .badArg [])) ∧
    (¬ bad → (∀ i, s.session i ≠ none) →
      exec .openSession s = .next (s.answer p Code.openSession .sessionsFull [])) ∧
    (¬ bad → ∀ (i : SessSlot) (prio : Priority), isLowest (fun j => s.session j = none) i →
      prio.val = (argByte args 4).toNat →
      let tag := (s.sessionCell i).tag + 1
      let inForce := if quota = 0 then 16 else quota
      let warn := warnMark s.clock.count term lead
      exec .openSession s = .next
        ((s.setSessionCell i
          { tag := tag
            session := some
              { state := .opened
                port := p
                term := term
                warnLead := lead
                warnPriority := prio
                noticeMode := if argByte args 5 = 0 then .fetchRetires else .ackRequired
                quota := inForce
                expiry := some (markAt s.clock.count term)
                warn := warn
                records := []
                notice := none
                lapseCause := none } }).answer p Code.openSession .ok
          ([natByte i] ++ halfBytes tag ++ [boolByte warn.isSome] ++
            wordBytes (markAt s.clock.count term) ++ wordBytes (warn.getD 0) ++ [natByte inForce])))

/-- R88, R89. KEEPALIVE on a live session sets new marks, puts it in OPEN and removes a pending
SESSION_WARNING; it changes no lease record. That bit 0 of the answer's presence byte is the warn mark's
is the model's reading of R177 (log 24), and that its other bits are 0 is the model's choice (log 25). -/
def Obligations.KeepaliveSetsNewMarks : Prop :=
  ∀ (s : State) (p : PortIx) (args : List Byte) (i : SessSlot) (x : Session),
    s.nextTake = some (p, ⟨Code.keepalive, args⟩) → args.length = 3 →
    s.namesSession p args i x → x.alive →
    let warn := warnMark s.clock.count x.term x.warnLead
    exec .keepalive s = .next
      ((s.setSession i (some
        { x with
          state := .opened
          expiry := some (markAt s.clock.count x.term)
          warn := warn
          notice := none })).answer p Code.keepalive .ok
        ([boolByte warn.isSome] ++ wordBytes (markAt s.clock.count x.term) ++ wordBytes (warn.getD 0)))

/-- R93, R94. CLOSE SESSION frees every record of a live session, oldest allocation first, and then the
slot, and answers OK; on a LAPSED session it frees the slot and answers LAPSED. No alert changes on a
LAPSED session. -/
def Obligations.CloseSessionFreesTheRecordsAndTheSlot : Prop :=
  ∀ (s : State) (p : PortIx) (args : List Byte) (i : SessSlot) (x : Session),
    s.nextTake = some (p, ⟨Code.closeSession, args⟩) → args.length = 3 → s.namesSession p args i x →
    (x.alive → exec .closeSession s = .next
      (((x.records.foldl (fun t l => t.freeRecord l) s).setSession i none).answer p
        Code.closeSession .ok [])) ∧
    (¬ x.alive → exec .closeSession s = .next
      ((s.setSession i none).answer p Code.closeSession .lapsed []))

/-- R99. PURGE SESSION: BAD_ARG for a slot above 15, BAD_STATE for a VACANT one; a live session's marks
go, its records are torn down and the SESSION_LAPSED alert is raised with cause PURGED and the session's
port; a LAPSED session raises no alert. In both cases the slot goes VACANT and the answer is OK. -/
def Obligations.PurgeSessionLapsesAndFreesTheSlot : Prop :=
  ∀ (s : State) (lines : BusLines) (args : List Byte),
    s.nextTake = some (4, ⟨Code.purgeSession, args⟩) → args.length = 1 →
    let slot := (argByte args 0).toNat
    (15 < slot → exec (.purgeSession lines) s = .next (s.answer 4 Code.purgeSession .badArg [])) ∧
    ∀ i : SessSlot, i.val = slot →
      (s.session i = none →
        exec (.purgeSession lines) s = .next (s.answer 4 Code.purgeSession .badState [])) ∧
      ∀ x, s.session i = some x →
        (x.alive → exec (.purgeSession lines) s = .next
          (((((s.setSession i (some { x with expiry := none, warn := none })).teardown x.records
              lines).raiseLapsed i { cause := .purged, port := x.port }).setSession i none).answer 4
            Code.purgeSession .ok [])) ∧
        (¬ x.alive → exec (.purgeSession lines) s = .next
          ((s.setSession i none).answer 4 Code.purgeSession .ok []))

/-- R96. When a live session's expiry mark is reached its marks go, its records are torn down, it goes
LAPSED with a SESSION_LAPSED notice and cause EXPIRED, and the SESSION_LAPSED alert is raised with that
cause and its port. The walk of R95 goes over the record list in order: a live EXCLUSIVE record is taken
out of the tables and revoked at its resource, every other record is freed. A mark that is not reached
gives no event (R73); that the event then leaves the state as it was is the model's choice (log 2). -/
def Obligations.SessionLapsesAtItsExpiryMark : Prop :=
  (∀ (s : State) (i : SessSlot) (x : Session) (lines : BusLines),
    s.session i = some x → x.alive → s.reached x.expiry = true →
    exec (.sessionLapse i lines) s = .next
      ((((s.setSession i (some { x with expiry := none, warn := none })).teardown x.records
          lines).raiseLapsed i { cause := .expired, port := x.port }).setSession i (some
        { x with
          state := .lapsed
          expiry := none
          warn := none
          records := []
          notice := some .sessionLapsed
          lapseCause := some .expired }))) ∧
  (∀ (s : State) (i : SessSlot) (lines : BusLines),
    (∀ x, s.session i = some x → s.reached x.expiry = false) →
    exec (.sessionLapse i lines) s = .next s) ∧
  (∀ (s : State) (lines : BusLines), s.teardown [] lines = s) ∧
  ∀ (s : State) (l : LeaseSlot) (rest : List LeaseSlot) (lines : BusLines) (r : LeaseRecord),
    s.record l = some r →
    (r.mode = .exclusive → r.state = .active ∨ r.state = .warned →
      s.teardown (l :: rest) lines =
        ((s.vacateRecord l).revokeExclusive r.resource lines).teardown rest lines) ∧
    (r.mode = .shared ∨ r.state = .waiting ∨ r.state = .ended →
      s.teardown (l :: rest) lines = (s.freeRecord l).teardown rest lines) ∧
    ∀ x, s.session r.session = some x →
      s.vacateRecord l =
        (s.setSession r.session (some { x with records := x.records.filter (· ≠ l) })).setLease l
          { issue := (s.lease l).issue, record := none }

/-! ### Leases (chapters 2 to 4) -/

/-- R41, R42, R43, R44, R47. The checks of ACQUIRE in their order; no refusal changes a table, but that
the first SPENT refusal on an entry sets spent reported and raises the GENERATION_SPENT alert. The count
that is held to the quota is the length of the session's list. -/
def Obligations.AcquireIsCheckedInOrder : Prop :=
  (∀ (s : State) (x : Session), (∀ l, l ∈ x.records → s.record l ≠ none) →
    s.recordCount x = x.records.length) ∧
  ∀ (s : State) (p : PortIx) (args : List Byte),
    s.nextTake = some (p, ⟨Code.acquire, args⟩) → args.length = 10 →
    let refused := fun st => exec .acquire s = .next (s.answer p Code.acquire st [])
    (16 ≤ (argByte args 0).toNat ∨ 1 < (argByte args 7).toNat → refused .badArg) ∧
    (∀ (i : SessSlot) (e : Status), (argByte args 7).toNat ≤ 1 → (argByte args 0).toNat = i.val →
      s.sessionRefusal p Code.acquire i (argHalf args 1) = some e → refused e) ∧
    ∀ (i : SessSlot) (x : Session), (argByte args 7).toNat ≤ 1 → s.namesSession p args i x → x.alive →
      (s.findKey (argWord args 3) = none → refused .noResource) ∧
      ∀ (mode : LeaseMode) (d : DirSlot) (e : Entry), s.acquireNames p args mode i x d e →
        (s.claims x d → refused .duplicate) ∧
        (¬ s.claims x d → mode = .exclusive ∧ e.spent = true →
          (e.spentReported = true → refused .spent) ∧
          (e.spentReported = false → exec .acquire s = .next
            (((s.setEntry d (some { e with spentReported := true })).raiseSpent d).answer p
              Code.acquire .spent []))) ∧
        (¬ s.claims x d → ¬ (mode = .exclusive ∧ e.spent = true) →
          (s.recordCount x = x.quota → refused .quota) ∧
          (s.recordCount x ≠ x.quota → (∀ l, s.record l ≠ none) → refused .tableFull) ∧
          (s.recordCount x ≠ x.quota → (∃ l, s.record l = none) → ¬ e.takesAtOnce mode →
            argHalf args 8 = 0 → refused .conflict))

/-- R22, R26, R27, R45, R46, R48. An ACQUIRE that passes its checks takes the lowest VACANT slot with
the next issue number, at the tail of its session's list. It is granted when the request is grantable at
once, with a token and marks and no notice, and otherwise, with a wait limit, joins the tail of the
wait queue. -/
def Obligations.AcquireGrantsAtOnceOrQueues : Prop :=
  ∀ (s : State) (p : PortIx) (args : List Byte) (mode : LeaseMode) (i : SessSlot) (x : Session)
    (d : DirSlot) (e : Entry) (l : LeaseSlot),
    s.nextTake = some (p, ⟨Code.acquire, args⟩) → s.acquirePasses p args mode i x d e l →
    let issue := (s.lease l).issue + 1
    let listed := fun t : State => t.setSession i (some { x with records := x.records ++ [l] })
    let count := s.clock.count
    let expiry := markAt count e.current.term
    let limit := argHalf args 8
    (e.takesAtOnce mode →
      let e' := match mode with
        | .shared => { e with state := .heldShared, holders := e.holders + 1 }
        | .exclusive =>
          { e with
            state := .heldExclusive
            holders := e.holders + 1
            generation := e.generation + 1
            exclusiveHolder := some l }
      exec .acquire s = .next
        ((listed ((s.setEntry d (some e')).setLease l
          { issue := issue
            record := some
              { state := .active
                session := i
                resource := d
                mode := mode
                token := some e'.generation
                expiry := some expiry
                warn := warnMark count e.current.term e.current.warnLead
                wait := none
                renewCount := 0
                notice := none
                endCause := none } })).answer p Code.acquire .ok
          ([natByte l] ++ halfBytes issue ++ wordBytes e'.generation ++ wordBytes expiry))) ∧
    (¬ e.takesAtOnce mode → limit ≠ 0 →
      exec .acquire s = .next
        ((listed ((s.setEntry d (some { e with queue := e.queue ++ [l] })).setLease l
          { issue := issue
            record := some
              { state := .waiting
                session := i
                resource := d
                mode := mode
                token := none
                expiry := none
                warn := none
                wait := if limit = 65535 then none else some (markAt count limit)
                renewCount := 0
                notice := none
                endCause := none } })).answer p Code.acquire .queued
          ([natByte l] ++ halfBytes issue ++ [natByte (e.queue.length + 1)])))

/-- R34, R58. RELEASE frees the record it names and answers OK, or ENDED when the record had ended.
Freeing takes the record out of its session's list and makes the slot VACANT with its issue number kept;
a WAITING record leaves the wait queue, and the grant check runs; a live one is dropped as a holder. -/
def Obligations.ReleaseFreesTheRecord : Prop :=
  (∀ (s : State) (p : PortIx) (args : List Byte) (i : SessSlot) (x : Session) (l : LeaseSlot)
    (r : LeaseRecord),
    s.nextTake = some (p, ⟨Code.release, args⟩) → args.length = 6 → s.namesSession p args i x →
    x.alive → s.namesLease args 3 i l r →
    exec .release s = .next ((s.freeRecord l).answer p Code.release
      (if r.state = .ended then .ended else .ok) [])) ∧
  ∀ (s : State) (l : LeaseSlot) (r : LeaseRecord) (x : Session),
    s.record l = some r → s.session r.session = some x →
    let vacated := (s.setSession r.session (some { x with records := x.records.filter (· ≠ l) })).setLease
      l { issue := (s.lease l).issue, record := none }
    (r.state = .ended → s.freeRecord l = vacated) ∧
    (r.state = .active ∨ r.state = .warned → s.freeRecord l = vacated.dropHolder r.resource l) ∧
    (r.state = .waiting → ∀ e, s.entry r.resource = some e →
      s.freeRecord l =
        (vacated.setEntry r.resource (some { e with queue := e.queue.filter (· ≠ l) })).grantCheck
          r.resource)

/-- R78, R79, R80. RENEW by the state of the record: LIMIT, NOT_HELD and ENDED change nothing; otherwise
the marks are set anew from the current policy, the renew count rises and holds at 255, the record is
ACTIVE, a pending WARNING goes and a pending GRANTED stays. That bit 0 of the answer's presence byte is
the warn mark's is the model's reading of R177 (log 24), and that its other bits are 0 is the model's
choice (log 25). -/
def Obligations.RenewSetsNewMarks : Prop :=
  ∀ (s : State) (p : PortIx) (args : List Byte) (i : SessSlot) (x : Session) (l : LeaseSlot)
    (r : LeaseRecord),
    s.nextTake = some (p, ⟨Code.renew, args⟩) → args.length = 6 → s.namesSession p args i x →
    x.alive → s.namesLease args 3 i l r →
    let answered := fun st => exec .renew s = .next (s.answer p Code.renew st [])
    (r.state = .waiting → answered .notHeld) ∧
    (r.state = .ended → answered .ended) ∧
    ∀ e, r.state = .active ∨ r.state = .warned → s.entry r.resource = some e →
      (e.current.renewLimit ≠ 0 ∧ r.renewCount = e.current.renewLimit → answered .limit) ∧
      (¬ (e.current.renewLimit ≠ 0 ∧ r.renewCount = e.current.renewLimit) →
        let expiry := markAt s.clock.count e.current.term
        let warn := warnMark s.clock.count e.current.term e.current.warnLead
        let renewals : Byte := if r.renewCount = 255 then 255 else r.renewCount + 1
        exec .renew s = .next
          ((s.setRecord l (some
            { r with
              state := .active
              expiry := some expiry
              warn := warn
              renewCount := renewals
              notice := match r.notice with
                | none => none
                | some n => if n.kind = .warning then none else some n })).answer p Code.renew .ok
            ([boolByte warn.isSome] ++ wordBytes expiry ++ wordBytes (warn.getD 0) ++ [renewals])))

/-- R18, R38. QUERY LEASE and QUERY RESOURCE answer the record and the entry as they stand, and change
no table. A WAITING record's position is its place in the queue, 1 being the head. That the bits of the
presence bytes which R177 does not name are 0 is the model's choice (log 25). -/
def Obligations.QueriesReportAndChangeNothing : Prop :=
  (∀ (s : State) (p : PortIx) (args : List Byte) (i : SessSlot) (x : Session) (l : LeaseSlot)
    (r : LeaseRecord) (e : Entry) (position : Nat),
    s.nextTake = some (p, ⟨Code.queryLease, args⟩) → args.length = 6 → s.namesSession p args i x →
    s.namesLease args 3 i l r → s.entry r.resource = some e →
    (r.state ≠ .waiting → position = 0) →
    (r.state = .waiting → 1 ≤ position ∧ e.queue[position - 1]? = some l ∧
      ∀ j, j + 1 < position → e.queue[j]? ≠ some l) →
    exec .queryLease s = .next (s.answer p Code.queryLease .ok
      ([r.state.code, natByte l] ++ halfBytes (s.lease l).issue ++ wordBytes e.key ++
        [r.mode.code,
          presence [r.token.isSome, r.expiry.isSome, r.warn.isSome, r.wait.isSome, position ≠ 0]] ++
        wordBytes (r.token.getD 0) ++ wordBytes (r.expiry.getD 0) ++ wordBytes (r.warn.getD 0) ++
        wordBytes (r.wait.getD 0) ++
        [r.renewCount, (match r.notice with | none => 0 | some n => n.kind.code),
          (match r.notice with | none => 0 | some n => natByte n.priority),
          EndCause.code r.endCause, natByte position]))) ∧
  ∀ (s : State) (p : PortIx) (args : List Byte) (i : DirSlot) (e : Entry),
    s.nextTake = some (p, ⟨Code.queryResource, args⟩) → args.length = 4 →
    s.findKey (argWord args 0) = some (i, e) →
    exec .queryResource s = .next (s.answer p Code.queryResource .ok
      ([e.state.code] ++ wordBytes e.generation ++
        [natByte e.holders, presence [e.exclusiveHolder.isSome, e.staged.isSome]] ++
        (match e.exclusiveHolder with
          | none => [0, 0, 0]
          | some l => [natByte l] ++ halfBytes (s.lease l).issue) ++
        [natByte e.queue.length] ++ halfBytes e.current.term ++ halfBytes e.current.warnLead ++
        [e.current.renewLimit]))

/-- R28, R77, R90. A reached warn mark of an ACTIVE record makes it WARNED with a WARNING notice at its
resource's priority; a reached warn mark of an OPEN session makes it WARNED with a SESSION_WARNING. A
mark that is not reached gives no event (R73); that the event then leaves the state as it was is the
model's choice (log 2). -/
def Obligations.WarnMarksWarn : Prop :=
  (∀ (s : State) (l : LeaseSlot) (r : LeaseRecord) (e : Entry),
    s.record l = some r → r.state = .active → s.reached r.warn = true →
    s.entry r.resource = some e →
    exec (.warnMarkReached l) s = .next (s.setRecord l (some
      { r with
        state := .warned
        warn := none
        notice := some { kind := .warning, priority := e.priority } }))) ∧
  (∀ (s : State) (l : LeaseSlot), (∀ r, s.record l = some r → s.reached r.warn = false) →
    exec (.warnMarkReached l) s = .next s) ∧
  (∀ (s : State) (i : SessSlot) (x : Session),
    s.session i = some x → x.state = .opened → s.reached x.warn = true →
    exec (.sessionWarning i) s = .next (s.setSession i (some
      { x with state := .warned, warn := none, notice := some .sessionWarning }))) ∧
  ∀ (s : State) (i : SessSlot), (∀ x, s.session i = some x → s.reached x.warn = false) →
    exec (.sessionWarning i) s = .next s

/-- R31, R103. A reached expiry mark of a live record revokes it: the record is ENDED with cause EXPIRED
and an ENDED notice at its resource's priority, keeping its token, and is given up at its resource, as a
holder dropped when it is SHARED and as an exclusive revocation when it is EXCLUSIVE. A mark that is not
reached gives no event (R73); that the event then leaves the state as it was is the model's choice (log
2). -/
def Obligations.HoldExpiryRevokesTheRecord : Prop :=
  (∀ (s : State) (l : LeaseSlot) (r : LeaseRecord) (lines : BusLines),
    s.record l = some r → r.state = .active ∨ r.state = .warned → s.reached r.expiry = true →
    exec (.holdExpiry l lines) s = .next (s.revokeEnding l .expired lines)) ∧
  (∀ (s : State) (l : LeaseSlot) (lines : BusLines),
    (∀ r, s.record l = some r → s.reached r.expiry = false) →
    exec (.holdExpiry l lines) s = .next s) ∧
  ∀ (s : State) (l : LeaseSlot) (r : LeaseRecord) (e : Entry) (cause : EndCause) (lines : BusLines),
    s.record l = some r → s.entry r.resource = some e →
    let ended := s.setRecord l (some
      { r with
        state := .ended
        expiry := none
        warn := none
        wait := none
        notice := some { kind := .ended, priority := e.priority }
        endCause := some cause })
    (r.mode = .shared → s.revokeEnding l cause lines = ended.dropHolder r.resource l) ∧
    (r.mode = .exclusive → s.revokeEnding l cause lines = ended.revokeExclusive r.resource lines)

/-- R29, R57. A reached wait mark ends the WAITING record with cause WAIT_EXPIRED and an ENDED notice at
its resource's priority; the record leaves the wait queue, and the grant check runs. A mark that is not
reached gives no event (R73); that the event then leaves the state as it was is the model's choice (log
2). -/
def Obligations.WaitExpiryEndsTheWait : Prop :=
  (∀ (s : State) (l : LeaseSlot) (r : LeaseRecord) (e : Entry),
    s.record l = some r → r.state = .waiting → s.reached r.wait = true →
    s.entry r.resource = some e →
    exec (.waitExpiry l) s = .next
      (((s.setRecord l (some
        { r with
          state := .ended
          expiry := none
          warn := none
          wait := none
          notice := some { kind := .ended, priority := e.priority }
          endCause := some .waitExpired })).setEntry r.resource
        (some { e with queue := e.queue.filter (· ≠ l) })).grantCheck r.resource)) ∧
  ∀ (s : State) (l : LeaseSlot), (∀ r, s.record l = some r → s.reached r.wait = false) →
    exec (.waitExpiry l) s = .next s

/-- R5, R10, R104. What a live record that leaves its entry does there. A holder dropped lowers the
holder count; at zero the entry goes FREE with a staged policy applied and the grant check runs. An
exclusive revocation advances the generation, removes the holder and applies a staged policy; with a
profile the entry goes FENCING and its job, with the advanced generation and a copy of the profile, is
appended; without one it goes FREE and the grant check runs. -/
def Obligations.LeavingHoldersGiveUpTheEntry : Prop :=
  ∀ (s : State) (i : DirSlot) (l : LeaseSlot) (e : Entry) (lines : BusLines), s.entry i = some e →
    let given := { e with
      holders := 0
      exclusiveHolder := none
      current := e.staged.getD e.current
      staged := none }
    (e.holders = 1 →
      s.dropHolder i l = (s.setEntry i (some { given with state := .free })).grantCheck i) ∧
    (1 < e.holders → e.exclusiveHolder = none →
      s.dropHolder i l = s.setEntry i (some { e with holders := e.holders - 1 })) ∧
    (∀ n p, e.profile = some n → s.profiles.get n = some p →
      s.revokeExclusive i lines =
        (s.setEntry i (some { given with state := .fencing, generation := e.generation + 1 })).appendJob
          { resource := i, generation := e.generation + 1, profile := p, attempts := 0, state := .queued }
          lines) ∧
    (e.profile = none →
      s.revokeExclusive i lines =
        (s.setEntry i (some { given with state := .free, generation := e.generation + 1 })).grantCheck i)

/-- R53, R54, R55, R56. The grant check: on a held-exclusive, fencing or failed entry, or an empty
queue, no change; a SHARED head is granted and the check goes on; an EXCLUSIVE head of a spent entry is
ended with cause SPENT and the check goes on; any other EXCLUSIVE head is granted from FREE, which ends
the check, and stops it in HELD_SHARED. An entry is spent when its generation is 0xFFFFFFFE or 0xFFFFFFFF
(R7). -/
def Obligations.GrantCheckServesTheQueueInOrder : Prop :=
  (∀ e : Entry, e.spent = true ↔ e.generation = 0xFFFFFFFE ∨ e.generation = 0xFFFFFFFF) ∧
  (∀ (s : State) (i : DirSlot) (e : Entry), s.entry i = some e →
    (e.state ≠ .free ∧ e.state ≠ .heldShared) ∨ e.queue = [] → s.grantCheck i = s) ∧
  ∀ (s : State) (i : DirSlot) (e : Entry) (l : LeaseSlot) (rest : List LeaseSlot) (r : LeaseRecord),
    s.entry i = some e → e.state = .free ∨ e.state = .heldShared → e.queue = l :: rest →
    s.record l = some r → r.resource = i →
    let live := fun token : Word =>
      { r with
        state := .active
        token := some token
        expiry := some (markAt s.clock.count e.current.term)
        warn := warnMark s.clock.count e.current.term e.current.warnLead
        wait := none
        renewCount := 0
        notice := some { kind := .granted, priority := e.priority } }
    let ended := { r with
      state := .ended
      expiry := none
      warn := none
      wait := none
      notice := some { kind := .ended, priority := e.priority }
      endCause := some .spent }
    (r.mode = .shared →
      s.grantCheck i =
        ((s.setEntry i (some
          { e with state := .heldShared, holders := e.holders + 1, queue := rest })).setRecord l
          (some (live e.generation))).grantCheck i) ∧
    (r.mode = .exclusive → e.spent = true → e.spentReported = true →
      s.grantCheck i =
        ((s.setEntry i (some { e with queue := rest })).setRecord l (some ended)).grantCheck i) ∧
    (r.mode = .exclusive → e.spent = true → e.spentReported = false →
      s.grantCheck i =
        (((s.setEntry i (some { e with queue := rest, spentReported := true })).setRecord l
          (some ended)).raiseSpent i).grantCheck i) ∧
    (r.mode = .exclusive → e.spent = false → e.state = .free →
      s.grantCheck i =
        (s.setEntry i (some
          { e with
            state := .heldExclusive
            holders := e.holders + 1
            generation := e.generation + 1
            exclusiveHolder := some l
            queue := rest })).setRecord l (some (live (e.generation + 1)))) ∧
    (r.mode = .exclusive → e.spent = false → e.state = .heldShared → s.grantCheck i = s)

/-! ### The lease clock (chapter 4) -/

/-- R66, R67, R68. CLOCK START and CLOCK STOP move the clock and drop the periods counted, and change
nothing in the state they lead to; in RUNNING the count advances by one each time REFCLK completes
8 * 2^divider periods; in STOPPED no period is counted. While a mark that is reached at the present count
has not been taken, no REFCLK period passes and CLOCK STOP is not taken (the model's order, log 3, log 4),
so that the event of a mark comes at its tick (R73, R75). -/
def Obligations.ClockRunsInTicks : Prop :=
  (∀ (s : State), s.nextTake = some (4, ⟨Code.clockStart, []⟩) →
    let c := if s.clock.state = .running then s.clock
      else { s.clock with state := .running, periods := 0 }
    exec .clockStart s = .next ({ s with clock := c }.answer 4 Code.clockStart .ok
      (wordBytes s.clock.count ++ [1, natByte s.clock.divider]))) ∧
  (∀ (s : State), s.nextTake = some (4, ⟨Code.clockStop, []⟩) →
    let c := if s.clock.state = .stopped then s.clock
      else { s.clock with state := .stopped, periods := 0 }
    (s.markDue = false →
      exec .clockStop s = .next ({ s with clock := c }.answer 4 Code.clockStop .ok
        (wordBytes s.clock.count ++ [0, natByte s.clock.divider]))) ∧
    (s.markDue = true → exec .clockStop s = .next s)) ∧
  ∀ (s : State) (periods : Nat),
    let whole := 8 * 2 ^ s.clock.divider.val
    (s.clock.state = .stopped → exec (.tick periods) s = .next s) ∧
    (s.clock.state = .running → s.markDue = false → s.clock.periods + periods < whole →
      exec (.tick periods) s =
        .next { s with clock := { s.clock with periods := s.clock.periods + periods } }) ∧
    (s.clock.state = .running → s.markDue = false → whole ≤ s.clock.periods + periods →
      exec (.tick periods) s =
        .next { s with clock := { s.clock with count := s.clock.count + 1, periods := 0 } }) ∧
    (s.markDue = true → exec (.tick periods) s = .next s)

/-- R69. SET CLOCK: BAD_ARG for a divider code above 7, CLOCK_RUNNING in RUNNING, BUSY while a session
slot is not VACANT; otherwise the count and the divider code are set and the clock stays STOPPED. -/
def Obligations.SetClockWritesAStoppedClock : Prop :=
  ∀ (s : State) (args : List Byte),
    s.nextTake = some (4, ⟨Code.setClock, args⟩) → args.length = 5 →
    let answered := fun st => exec .setClock s = .next (s.answer 4 Code.setClock st [])
    (7 < (argByte args 4).toNat → answered .badArg) ∧
    ∀ d : Fin 8, d.val = (argByte args 4).toNat →
      (s.clock.state = .running → answered .clockRunning) ∧
      (s.clock.state = .stopped → (∃ i, s.session i ≠ none) → answered .busy) ∧
      (s.clock.state = .stopped → (∀ i, s.session i = none) →
        exec .setClock s = .next
          ({ s with clock := { s.clock with count := argWord args 0, divider := d } }.answer 4
            Code.setClock .ok (wordBytes (argWord args 0) ++ [argByte args 4])))

/-- R70. READ CLOCK is answered OK from any port, with no session checked, with the count, the state and
the divider code, and changes no state. -/
def Obligations.ReadClockReportsTheClock : Prop :=
  ∀ (s : State) (p : PortIx), s.nextTake = some (p, ⟨Code.readClock, []⟩) →
    exec .readClock s = .next (s.answer p Code.readClock .ok
      (wordBytes s.clock.count ++
        [(if s.clock.state = .running then 1 else 0), natByte s.clock.divider]))

/-- R72, R73, R76, R88. A mark is the count plus an offset, modulo 2^32; a warn mark is present exactly
when 0 < L < T, and then lies L ticks before the expiry mark. A mark is reached exactly when the clock is
RUNNING and the count less the mark, modulo 2^32, is below 2^31; an absent mark never is. A mark is due
while some mark of a record or of a session is reached. A mark that is set lies at least one tick ahead,
so it is not reached in the event that sets it, and one that lies at most 65535 ticks ahead is reached at
the tick that brings the count to it (R75). -/
def Obligations.MarksAreSetAheadAndReachedByTheCount : Prop :=
  (∀ (count : Word) (offset : Half),
    (markAt count offset).toNat = (count.toNat + offset.toNat) % 2 ^ 32) ∧
  (∀ (count : Word) (term lead : Half), 0 < lead.toNat → lead.toNat < term.toNat →
    ∃ m, warnMark count term lead = some m ∧
      m.toNat = (count.toNat + (term.toNat - lead.toNat)) % 2 ^ 32) ∧
  (∀ (count : Word) (term lead : Half), lead.toNat = 0 ∨ term.toNat ≤ lead.toNat →
    warnMark count term lead = none) ∧
  (∀ s : State, s.reached none = false) ∧
  (∀ (s : State) (m : Word), s.reached (some m) = true ↔
    s.clock.state = .running ∧ (s.clock.count - m).toNat < 2 ^ 31) ∧
  (∀ (s : State) (offset : Half), offset ≠ 0 →
    s.reached (some (markAt s.clock.count offset)) = false) ∧
  (∀ (s : State) (m : Word), (m - s.clock.count).toNat ≤ 65535 →
    (s.reached (some m) = true ↔ s.clock.state = .running ∧ s.clock.count = m)) ∧
  ∀ s : State, s.markDue = true ↔
    (∃ l r, s.record l = some r ∧
      (s.reached r.expiry = true ∨ s.reached r.warn = true ∨ s.reached r.wait = true)) ∨
    ∃ i x, s.session i = some x ∧ (s.reached x.expiry = true ∨ s.reached x.warn = true)

/-! ### Notices and alerts (chapter 9) -/

/-- R148. The notice that FETCH NOTICE selects is the pending one of highest priority; among equals the
session's own, and then the record notice of the lowest lease slot; there is none exactly when nothing
is pending. A SESSION_WARNING has the session's warning priority, a SESSION_LAPSED 7 (R90, R96). -/
def Obligations.FetchSelectsTheHighestPriority : Prop :=
  (∀ x : Session, x.noticePriority .sessionWarning = x.warnPriority ∧
    x.noticePriority .sessionLapsed = 7) ∧
  ∀ (s : State) (x : Session),
    (s.selectNotice x = none ↔
      x.notice = none ∧ ∀ l r, l ∈ x.records → s.record l = some r → r.notice = none) ∧
    (∀ k, s.selectNotice x = some (.session k) → x.notice = some k ∧
      ∀ l r n, l ∈ x.records → s.record l = some r → r.notice = some n →
        n.priority ≤ x.noticePriority k) ∧
    ∀ l r n, s.selectNotice x = some (.record l r n) →
      l ∈ x.records ∧ s.record l = some r ∧ r.notice = some n ∧
      (∀ k, x.notice = some k → x.noticePriority k < n.priority) ∧
      ∀ l' r' n', l' ∈ x.records → s.record l' = some r' → r'.notice = some n' →
        n'.priority < n.priority ∨ (n'.priority = n.priority ∧ l ≤ l')

/-- R149, R150, R151. FETCH NOTICE answers NONE when nothing is pending, and otherwise the selected
notice as it stands with the number of notices pending when the command completes; it retires the notice
in FETCH_RETIRES mode alone. The pending count is the number of notices of the session itself and of the
records in its list. ACK NOTICE retires the target's notice in ACK_REQUIRED mode; a target of neither
kind is answered BAD_ARG, the other mode BAD_STATE, and a target with nothing pending NONE. That the
bits of the presence byte which R177 does not name are 0 is the model's choice (log 25). -/
def Obligations.FetchAndAckRetireNotices : Prop :=
  (∀ (s : State) (p : PortIx) (args : List Byte) (i : SessSlot) (x : Session),
    s.nextTake = some (p, ⟨Code.fetchNotice, args⟩) → args.length = 3 → s.namesSession p args i x →
    (s.selectNotice x = none →
      exec .fetchNotice s = .next (s.answer p Code.fetchNotice .none_ [])) ∧
    ∀ n t, s.selectNotice x = some n →
      t = (if x.noticeMode = .fetchRetires then
        (match n with
          | .session _ => s.retireSession i
          | .record l _ _ => s.retireRecord l)
        else s) →
      exec .fetchNotice s = .next (t.answer p Code.fetchNotice .ok
        (match n with
          | .record l r m =>
            [m.kind.code, natByte m.priority,
              presence [true, r.token.isSome, r.expiry.isSome, r.warn.isSome], natByte l] ++
              halfBytes (s.lease l).issue ++
              wordBytes (match s.entry r.resource with | none => 0 | some e => e.key) ++ [r.mode.code] ++
              wordBytes (r.token.getD 0) ++ wordBytes (r.expiry.getD 0) ++ wordBytes (r.warn.getD 0) ++
              [(if m.kind = .ended then EndCause.code r.endCause else 0), natByte (t.pendingCount i)]
          | .session .sessionWarning =>
            [4, natByte x.warnPriority, presence [false, false, x.expiry.isSome, false]] ++
              List.replicate 12 0 ++ wordBytes (x.expiry.getD 0) ++ [0, 0, 0, 0] ++
              [0, natByte (t.pendingCount i)]
          | .session .sessionLapsed =>
            [5, 7, 0] ++ List.replicate 20 0 ++
              [LapseCause.code x.lapseCause, natByte (t.pendingCount i)]))) ∧
  (∀ (s : State) (p : PortIx) (args : List Byte) (i : SessSlot) (x : Session),
    s.nextTake = some (p, ⟨Code.ackNotice, args⟩) → args.length = 7 → s.namesSession p args i x →
    let answered := fun st => exec .ackNotice s = .next (s.answer p Code.ackNotice st [])
    (1 < (argByte args 3).toNat → answered .badArg) ∧
    (argByte args 3 = 0 →
      (x.noticeMode = .fetchRetires → answered .badState) ∧
      (x.noticeMode = .ackRequired → x.notice = none → answered .none_) ∧
      ∀ k, x.noticeMode = .ackRequired → x.notice = some k →
        exec .ackNotice s = .next ((s.retireSession i).answer p Code.ackNotice .ok
          [k.code, natByte ((s.retireSession i).pendingCount i)])) ∧
    ∀ l r, argByte args 3 = 1 → s.namesLease args 4 i l r →
      (x.noticeMode = .fetchRetires → answered .badState) ∧
      (x.noticeMode = .ackRequired → r.notice = none → answered .none_) ∧
      ∀ n, x.noticeMode = .ackRequired → r.notice = some n →
        exec .ackNotice s = .next ((s.retireRecord l).answer p Code.ackNotice .ok
          [n.kind.code, natByte ((s.retireRecord l).pendingCount i)])) ∧
  (∀ (s : State) (l : LeaseSlot) (r : LeaseRecord) (n : Notice), s.record l = some r →
    r.notice = some n → s.retireRecord l =
      if n.kind = .ended then s.freeRecord l else s.setRecord l (some { r with notice := none })) ∧
  (∀ (s : State) (i : SessSlot), s.session i = none → s.pendingCount i = 0) ∧
  ∀ (s : State) (i : SessSlot) (x : Session), s.session i = some x →
    s.pendingCount i = (if x.notice = none then 0 else 1) +
      x.records.countP (fun l => (s.record l).any fun r => r.notice ≠ none) ∧
    (x.notice = some .sessionWarning →
      s.retireSession i = s.setSession i (some { x with notice := none })) ∧
    (x.notice = some .sessionLapsed → s.retireSession i = s.setSession i none)

/-- R145. A port's notice level is asserted exactly while some session bound to it, in any state, has a
pending notice, its own or of a record in its list, of a priority above the port's threshold; the pins
NTF0 to NTF3 are low exactly then, and the NOTICE flag of every status byte is the level. A session's own
notice has the warning priority, or 7 for SESSION_LAPSED. -/
def Obligations.NoticeLevelFollowsThresholdAndNotices : Prop :=
  (∀ (s : State) (p : PortIx), s.noticeLevel p = true ↔
    ∃ i x, s.session i = some x ∧ x.port = p ∧
      ((x.notice = some .sessionWarning ∧ s.thresholds.get p < x.warnPriority) ∨
        (x.notice = some .sessionLapsed ∧ s.thresholds.get p < 7) ∨
        ∃ l r n, l ∈ x.records ∧ s.record l = some r ∧ r.notice = some n ∧
          s.thresholds.get p < n.priority)) ∧
  (∀ (s : State) (p : PortIx), (s.statusByte p).getLsbD 3 = s.noticeLevel p) ∧
  ∀ (s : State) (p : AgentPort), s.ntfHigh p = !s.noticeLevel (agentIx p)

/-- R146. SET THRESHOLD: DENIED from an agent port, BAD_ARG out of range; otherwise the threshold takes
the value at once, and the answer carries the notice level under it. -/
def Obligations.SetThresholdFormsTheLevelAfresh : Prop :=
  ∀ (s : State) (p : PortIx) (args : List Byte), s.nextTake = some (p, ⟨Code.setThreshold, args⟩) →
    (p ≠ 4 → exec .setThreshold s = .next (s.answer p Code.setThreshold .denied [])) ∧
    (p = 4 → args.length = 2 →
      (4 < (argByte args 0).toNat ∨ 7 < (argByte args 1).toNat →
        exec .setThreshold s = .next (s.answer 4 Code.setThreshold .badArg [])) ∧
      ∀ (q : PortIx) (v : Priority), q.val = (argByte args 0).toNat → v.val = (argByte args 1).toNat →
        ∃ t : State, t = { s with thresholds := put s.thresholds q v } ∧
          t.thresholds.get q = v ∧ (∀ o, o ≠ q → t.thresholds.get o = s.thresholds.get o) ∧
          exec .setThreshold s = .next (t.answer 4 Code.setThreshold .ok
            [argByte args 0, argByte args 1, boolByte (t.noticeLevel q)]))

/-- R155, R156. READ ALERTS answers the total and up to eight alerts from the start position of the
list, ordered by directory slot with FENCE_FAILED before GENERATION_SPENT, and then by session slot, and
changes nothing. ACK ALERT removes the named alert, if it is held, and answers how many remain. Raising
an alert adds it to the set and leaves every other one; a SESSION_LAPSED already held takes the new cause
and port (R96, R154). -/
def Obligations.AlertsAreListedAndAcknowledged : Prop :=
  (∀ (s : State) (args : List Byte),
    s.nextTake = some (4, ⟨Code.readAlerts, args⟩) → args.length = 1 →
    let start := (argByte args 0).toNat
    let shown := (s.alerts.list.drop start).take 8
    (143 < start → exec .readAlerts s = .next (s.answer 4 Code.readAlerts .badArg [])) ∧
    (start ≤ 143 → exec .readAlerts s = .next (s.answer 4 Code.readAlerts .ok
      ([natByte s.alerts.list.length, natByte shown.length] ++ shown.flatten)))) ∧
  (∀ a : Alerts,
    (∀ b, b ∈ a.list ↔
      (∃ i : DirSlot, a.fenceFailed.get i = true ∧ b = [1, natByte i, 0, 0]) ∨
      (∃ i : DirSlot, a.generationSpent.get i = true ∧ b = [2, natByte i, 0, 0]) ∨
      ∃ (i : SessSlot) (h : LapseAlert), a.sessionLapsed.get i = some h ∧
        b = [3, natByte i, LapseCause.code (some h.cause), natByte h.port]) ∧
    let rank := fun b : List Byte =>
      if b.getD 0 0 = 3 then 128 + (b.getD 1 0).toNat
      else 2 * (b.getD 1 0).toNat + (if b.getD 0 0 = 2 then 1 else 0)
    a.list.Pairwise fun b c => rank b < rank c) ∧
  (∀ (s : State) (args : List Byte) (n : AlertName),
    s.nextTake = some (4, ⟨Code.ackAlert, args⟩) → args.length = 2 →
    (match n with
      | .fenceFailed i => argByte args 0 = 1 ∧ (argByte args 1).toNat = i.val
      | .generationSpent i => argByte args 0 = 2 ∧ (argByte args 1).toNat = i.val
      | .sessionLapsed i => argByte args 0 = 3 ∧ (argByte args 1).toNat = i.val) →
    (s.alerts.held n = false →
      exec .ackAlert s = .next (s.answer 4 Code.ackAlert .none_ [])) ∧
    (s.alerts.held n = true →
      exec .ackAlert s = .next ({ s with alerts := s.alerts.remove n }.answer 4 Code.ackAlert .ok
        [natByte (s.alerts.remove n).list.length]))) ∧
  (∀ (s : State) (args : List Byte),
    s.nextTake = some (4, ⟨Code.ackAlert, args⟩) → args.length = 2 →
    argByte args 0 = 0 ∨ 3 < (argByte args 0).toNat ∨
      (argByte args 0 = 3 ∧ 15 < (argByte args 1).toNat) ∨ 63 < (argByte args 1).toNat →
    exec .ackAlert s = .next (s.answer 4 Code.ackAlert .badArg [])) ∧
  (∀ (s : State) (i : DirSlot),
    (s.raiseFenceFailed i = { s with alerts := (s.raiseFenceFailed i).alerts } ∧
      ∀ n, (s.raiseFenceFailed i).alerts.held n = true ↔ n = .fenceFailed i ∨ s.alerts.held n = true) ∧
    (s.raiseSpent i = { s with alerts := (s.raiseSpent i).alerts } ∧
      ∀ n, (s.raiseSpent i).alerts.held n = true ↔ n = .generationSpent i ∨ s.alerts.held n = true) ∧
    (s.raiseFenceFailed i).alerts.sessionLapsed = s.alerts.sessionLapsed ∧
    (s.raiseSpent i).alerts.sessionLapsed = s.alerts.sessionLapsed) ∧
  (∀ (s : State) (i : SessSlot) (h : LapseAlert),
    s.raiseLapsed i h = { s with alerts := { s.alerts with
      sessionLapsed := (s.raiseLapsed i h).alerts.sessionLapsed } } ∧
    ∀ j, (s.raiseLapsed i h).alerts.sessionLapsed.get j =
      if j = i then some h else s.alerts.sessionLapsed.get j) ∧
  (∀ (a : Alerts) (n m : AlertName), (a.remove n).held m = true ↔ m ≠ n ∧ a.held m = true) ∧
  (∀ (a : Alerts) (n : AlertName) (i : SessSlot), (a.remove n).sessionLapsed.get i =
    if n = .sessionLapsed i then none else a.sessionLapsed.get i) ∧
  ∀ a : Alerts, a.total = a.list.length ∧
    (∀ i, a.held (.fenceFailed i) = a.fenceFailed.get i) ∧
    (∀ i, a.held (.generationSpent i) = a.generationSpent.get i) ∧
    ∀ i, a.held (.sessionLapsed i) = true ↔ ∃ h, a.sessionLapsed.get i = some h

/-! ### The directory (chapter 1) -/

/-- R14. DEFINE RESOURCE: BAD_ARG, EXISTS, DIRECTORY_FULL and LINE_BOUND in this order; otherwise the
lowest VACANT slot is filled with a FREE entry of generation 1. -/
def Obligations.DefineResourceFillsTheLowestVacantSlot : Prop :=
  ∀ (s : State) (args : List Byte),
    s.nextTake = some (4, ⟨Code.defineResource, args⟩) → args.length = 13 →
    let key := argWord args 0
    let term := argHalf args 4
    let answered := fun st => exec .defineResource s = .next (s.answer 4 Code.defineResource st [])
    let bad := key = 0 ∨ term = 0 ∨ 7 < (argByte args 9).toNat ∨ s.profileByteBad (argByte args 10) ∨
      lineBytesBad (argByte args 11) (argByte args 12)
    let known := ∃ i e, s.entry i = some e ∧ e.key = key
    let full := ∀ i, s.entry i ≠ none
    let taken := s.lineByteTaken none (argByte args 11)
    (bad → answered .badArg) ∧
    (¬ bad → known → answered .exists_) ∧
    (¬ bad → ¬ known → full → answered .directoryFull) ∧
    (¬ bad → ¬ known → ¬ full → taken → answered .lineBound) ∧
    (¬ bad → ¬ known → ¬ taken →
      ∀ (i : DirSlot) (prio : Priority) (n : Option ProfileNo) (b : Option LineBinding),
        isLowest (fun j => s.entry j = none) i → prio.val = (argByte args 9).toNat →
        spellsProfile (argByte args 10) n → spellsLine (argByte args 11) (argByte args 12) b →
        exec .defineResource s = .next
          ((s.setEntry i (some
            { state := .free
              key := key
              generation := 1
              current := { term := term, warnLead := argHalf args 6, renewLimit := argByte args 8 }
              staged := none
              priority := prio
              profile := n
              line := b
              holders := 0
              exclusiveHolder := none
              queue := []
              spentReported := false })).answer 4 Code.defineResource .ok [natByte i, 0, 0, 0, 1]))

/-- R9, R15, R16. AMEND RESOURCE: BAD_ARG and LINE_BOUND for the named fields, in this order; otherwise
the named priority, profile and line change at once, and the named policy fields go into the current
policy of a FREE entry and into the staged policy of any other. That bits 6 and 7 of the named-field
byte, which R176 answers BAD_ARG, are checked at this place is the model's choice (log 14, DEDUCED). -/
def Obligations.AmendResourceChangesTheNamedFields : Prop :=
  ∀ (s : State) (args : List Byte) (i : DirSlot) (e : Entry),
    s.nextTake = some (4, ⟨Code.amendResource, args⟩) → args.length = 14 →
    s.findKey (argWord args 0) = some (i, e) →
    let named := fun k => (argByte args 4).getLsbD k
    let bad := (named 0 = true ∧ argHalf args 5 = 0) ∨ (named 3 = true ∧ 7 < (argByte args 10).toNat) ∨
      (named 4 = true ∧ s.profileByteBad (argByte args 11)) ∨
      (named 5 = true ∧ lineBytesBad (argByte args 12) (argByte args 13)) ∨ named 6 = true ∨
      named 7 = true
    let taken := named 5 = true ∧ s.lineByteTaken (some i) (argByte args 12)
    (bad → exec .amendResource s = .next (s.answer 4 Code.amendResource .badArg [])) ∧
    (¬ bad → taken → exec .amendResource s = .next (s.answer 4 Code.amendResource .lineBound [])) ∧
    (¬ bad → ¬ taken →
      ∀ (prio : Priority) (n : Option ProfileNo) (b : Option LineBinding),
        (if named 3 then prio.val = (argByte args 10).toNat else prio = e.priority) →
        (if named 4 then spellsProfile (argByte args 11) n else n = e.profile) →
        (if named 5 then spellsLine (argByte args 12) (argByte args 13) b else b = e.line) →
        let amend := fun q : Policy =>
          { term := if named 0 then argHalf args 5 else q.term
            warnLead := if named 1 then argHalf args 7 else q.warnLead
            renewLimit := if named 2 then argByte args 9 else q.renewLimit : Policy }
        let policyNamed := named 0 || named 1 || named 2
        exec .amendResource s = .next
          ((s.setEntry i (some
            { e with
              priority := prio
              profile := n
              line := b
              current := if e.state = .free then amend e.current else e.current
              staged := if e.state ≠ .free ∧ policyNamed = true
                then some (amend (e.staged.getD e.current)) else e.staged })).answer 4
            Code.amendResource .ok []))

/-- R17. DELETE RESOURCE: BUSY for an entry that is not FREE or that a record names; otherwise the slot
goes VACANT and both alerts of the slot are cleared. -/
def Obligations.DeleteResourceVacatesAnUnusedSlot : Prop :=
  ∀ (s : State) (args : List Byte) (i : DirSlot) (e : Entry),
    s.nextTake = some (4, ⟨Code.deleteResource, args⟩) → args.length = 4 →
    s.findKey (argWord args 0) = some (i, e) →
    let busy := e.state ≠ .free ∨ ∃ l r, s.record l = some r ∧ r.resource = i
    (busy → exec .deleteResource s = .next (s.answer 4 Code.deleteResource .busy [])) ∧
    (¬ busy → exec .deleteResource s = .next
      (({ s.setEntry i none with
          alerts := { s.alerts with
            fenceFailed := put s.alerts.fenceFailed i false
            generationSpent := put s.alerts.generationSpent i false } } : State).answer 4
        Code.deleteResource .ok []))

/-! ### Revocation and fencing (chapter 6) -/

/-- R105. FORCE REVOKE: NOT_HELD when the entry has no holder; otherwise the live records that name the
entry when the command is taken are revoked with cause FORCED, in ascending slot order, each whole
before the next, and the answer gives their number and the entry's state and generation as left. -/
def Obligations.ForceRevokeRevokesTheLiveRecords : Prop :=
  ∀ (s : State) (lines : BusLines) (args : List Byte) (i : DirSlot) (e : Entry),
    s.nextTake = some (4, ⟨Code.forceRevoke, args⟩) → args.length = 4 →
    s.findKey (argWord args 0) = some (i, e) →
    (e.holders = 0 →
      exec (.forceRevoke lines) s = .next (s.answer 4 Code.forceRevoke .notHeld [])) ∧
    (e.holders ≠ 0 →
      ∃ t f, t = (s.liveOn i).foldl (fun t l => t.revokeEnding l .forced lines) s ∧
        t.entry i = some f ∧
        exec (.forceRevoke lines) s = .next (t.answer 4 Code.forceRevoke .ok
          ([natByte (s.liveOn i).length, f.state.code] ++ wordBytes f.generation)))

/-- R115, R116, R117. CLEAR FENCE: BAD_ARG for an action that is neither, BAD_STATE unless the entry is
FENCE_FAILED, and for RETRY without a profile. ACCEPT moves the entry to FREE, applies a staged policy
and runs the grant check, with the generation unchanged. RETRY moves it to FENCING, applies a staged
policy and appends a fresh job with the unchanged generation and a copy of the profile. The answer gives
the entry's state and generation as left. That the row CLEAR_FENCE_ACCEPT takes the frame of neither
action is the model's choice (log 13). -/
def Obligations.ClearFenceAcceptsOrRetries : Prop :=
  ∀ (s : State) (lines : BusLines) (args : List Byte),
    s.nextTake = some (4, ⟨Code.clearFence, args⟩) → args.length = 5 →
    let action := (argByte args 4).toNat
    (1 < action →
      exec .clearFenceAccept s = .next (s.answer 4 Code.clearFence .badArg [])) ∧
    ∀ (i : DirSlot) (e : Entry), s.findKey (argWord args 0) = some (i, e) →
      let given := { e with
        holders := 0
        exclusiveHolder := none
        current := e.staged.getD e.current
        staged := none }
      (action = 0 → e.state ≠ .fenceFailed →
        exec .clearFenceAccept s = .next (s.answer 4 Code.clearFence .badState [])) ∧
      (action = 1 → e.state ≠ .fenceFailed ∨ e.profile = none →
        exec (.clearFenceRetry lines) s = .next (s.answer 4 Code.clearFence .badState [])) ∧
      (action = 0 → e.state = .fenceFailed →
        ∃ t f, t = (s.setEntry i (some { given with state := .free })).grantCheck i ∧
          t.entry i = some f ∧
          exec .clearFenceAccept s = .next (t.answer 4 Code.clearFence .ok
            ([f.state.code] ++ wordBytes f.generation))) ∧
      ∀ n q, action = 1 → e.state = .fenceFailed → e.profile = some n → s.profiles.get n = some q →
        ∃ t f, t = (s.setEntry i (some { given with state := .fencing })).appendJob
            { resource := i, generation := e.generation, profile := q, attempts := 0, state := .queued }
            lines ∧
          t.entry i = some f ∧
          exec (.clearFenceRetry lines) s = .next (t.answer 4 Code.clearFence .ok
            ([f.state.code] ++ wordBytes f.generation))

/-! ### The enforcement bus (chapter 7) -/

/-- R109, R111, R112, R127, R128, R129. The head job starts when it is QUEUED and the bus IDLE: its
attempt count rises and the attempt record is filled. With both lines high it goes on the bus; otherwise
it fails at once and RECOVERY begins. A job is appended at the tail of the queue, and starts in the same
event if it can (R108). The attempt drives the bytes of its payload form and, with verify,
reads the register back. `driven` records what the bus carried (log 11), and `lines` are the levels read
(log 12). -/
def Obligations.HeadJobStartsOnAnIdleBus : Prop :=
  (∀ (s : State) (j : FenceJob) (rest : List FenceJob) (lines : BusLines),
    s.fenceQueue = j :: rest → j.state = .queued → s.bus.state = .idle →
    let started := { j with attempts := j.attempts + 1, state := .inFlight }
    let a := j.attempt
    (lines.escl = true ∧ lines.esda = true →
      s.startAttempt lines = { s with
        fenceQueue := started :: rest
        bus := { s.bus with state := .transfer, runSpeed := some s.bus.speed, attempt := some a } }) ∧
    (¬ (lines.escl = true ∧ lines.esda = true) →
      s.startAttempt lines =
        ({ s with
          fenceQueue := started :: rest
          bus := { s.bus with
            state := .recovery, runSpeed := some s.bus.speed, attempt := some a, driven := [] } } :
          State).failHead)) ∧
  (∀ (s : State) (lines : BusLines),
    s.bus.state ≠ .idle ∨ s.fenceQueue = [] ∨
      (∃ j rest, s.fenceQueue = j :: rest ∧ j.state = .inFlight) → s.startAttempt lines = s) ∧
  (∀ (s : State) (j : FenceJob) (lines : BusLines),
    s.appendJob j lines = ({ s with fenceQueue := s.fenceQueue ++ [j] } : State).startAttempt lines) ∧
  (∀ (s : State) (j : FenceJob) (rest : List FenceJob), s.fenceQueue = j :: rest →
    (j.attempts < 1 + j.profile.retries.val →
      s.failHead = { s with fenceQueue := { j with state := .queued } :: rest }) ∧
    ∀ e, 1 + j.profile.retries.val ≤ j.attempts → s.entry j.resource = some e → e.state = .fencing →
      s.failHead = (({ s with fenceQueue := rest } : State).setEntry j.resource
        (some { e with state := .fenceFailed })).raiseFenceFailed j.resource) ∧
  ∀ j : FenceJob,
    let a := j.attempt
    let w := j.profile.target ++ 0#1
    let fixed := BusItem.write j.profile.fixedValue
    let generation := (wordBytes j.generation).map BusItem.write
    let begin := [BusItem.start, .write w, .write j.profile.register]
    a.target = j.profile.target ∧ a.register = j.profile.register ∧ a.position = 0 ∧
    a.abandoned = false ∧ a.expected = j.profile.fixedValue ∧ a.verify = j.profile.verify ∧
    (j.profile.verify = false →
      (j.profile.form = .fixed → a.sequence = begin ++ [fixed, .stop]) ∧
      (j.profile.form = .generation → a.sequence = begin ++ generation ++ [.stop]) ∧
      (j.profile.form = .fixedThenGeneration →
        a.sequence = begin ++ [fixed] ++ generation ++ [.stop])) ∧
    (j.profile.verify = true → j.profile.form = .fixed →
      a.sequence = begin ++ [fixed, .repeatedStart, .write w, .write j.profile.register, .repeatedStart,
        .write (j.profile.target ++ 1#1), .read, .stop])

/-- R110, R125, R130. An attempt in TRANSFER moves on by one place of its sequence at a time, and its end
in success, after the STOP, takes the head job out of the queue, moves its entry from FENCING to FREE
with a staged policy applied, runs the grant check, and starts the next job on the idle bus. That the row
has these two moments, and that `driven` records what the bus carried, is the model's choice (log 11); a
moment out of its place, or of an abandoned attempt, does not come about (log 2). -/
def Obligations.SuccessFreesTheEntry : Prop :=
  ∀ (s : State) (a : Attempt), s.bus.state = .transfer → s.bus.attempt = some a →
    (a.abandoned = false → a.position + 1 < a.sequence.length →
      exec (.attemptSuccess .moved) s = .next
        { s with bus := { s.bus with attempt := some { a with position := a.position + 1 } } } ∧
      ∀ lines, exec (.attemptSuccess (.ended lines)) s = .next s) ∧
    (a.abandoned = false → a.position + 1 = a.sequence.length →
      exec (.attemptSuccess .moved) s = .next s ∧
      ∀ (lines : BusLines) (j : FenceJob) (rest : List FenceJob) (e : Entry),
        s.fenceQueue = j :: rest → s.entry j.resource = some e → e.state = .fencing →
        exec (.attemptSuccess (.ended lines)) s = .next
          (((({ s with
              fenceQueue := rest
              bus := { s.bus with
                state := .idle, runSpeed := none, attempt := none, driven := a.sequence } } :
              State).setEntry
            j.resource (some
              { e with
                state := .free
                holders := 0
                exclusiveHolder := none
                current := e.staged.getD e.current
                staged := none })).grantCheck j.resource).startAttempt lines)) ∧
    (a.abandoned = true → ∀ phase, exec (.attemptSuccess phase) s = .next s)

/-- R111, R112, R129, R130. A byte written that is not acknowledged, and a read-back that differs from
the fixed value, end the attempt in failure with a STOP and the bus IDLE: the head job fails, and the
head job of the queue starts in the same event. That the NACK comes at the place reached, and the
comparison when the STOP is reached, and that `driven` records what the bus carried, is the model's
choice (log 11); at any other place, of an abandoned attempt, or with the fixed value itself read back,
the event does not come about (log 2). -/
def Obligations.FailureOnTheWireFailsTheHeadJob : Prop :=
  ∀ (s : State) (lines : BusLines) (a : Attempt),
    s.bus.state = .transfer → s.bus.attempt = some a →
    let idle := fun driven : List BusItem =>
      ({ s with bus := { s.bus with
          state := .idle, runSpeed := none, attempt := none, driven := driven } } : State)
    (a.abandoned = false →
      (∀ b, a.sequence[a.position]? = some (.write b) →
        exec (.attemptNack a.position lines) s =
          .next ((idle (a.sequence.dropLast.take (a.position + 1) ++ [.stop])).failHead.startAttempt
            lines)) ∧
      ((∀ b, a.sequence[a.position]? ≠ some (.write b)) →
        exec (.attemptNack a.position lines) s = .next s) ∧
      ∀ b, a.verify = true → a.position + 1 = a.sequence.length →
        exec (.readBackMismatch b lines) s =
          if b = a.expected then .next s
          else .next ((idle a.sequence).failHead.startAttempt lines)) ∧
    (∀ k, k ≠ a.position ∨ a.abandoned = true → exec (.attemptNack k lines) s = .next s) ∧
    ∀ b, a.verify = false ∨ a.position + 1 ≠ a.sequence.length ∨ a.abandoned = true →
      exec (.readBackMismatch b lines) s = .next s

/-- R126, R131, R132, R133, R134. A byte that stalls puts the controller in RECOVERY at the speed in
force, and the head job fails, unless the attempt was abandoned, which reports nothing; a stall of the
STOP, or of the wait before it, is one of the byte before. Recovery ends with a STOP, or by a timeout
without one, and an abandoned attempt ends with a STOP after the byte in progress; in each case the
controller is IDLE with no attempt record, and the head job starts. The model's choices: the events name
the place that the attempt has reached, and `driven` records what the bus carried (log 11); at another
place, or of an attempt that is not as the rule says, the event does not come about (log 2); an attempt
abandoned at its first START, before any byte, does not stall (log 23). -/
def Obligations.StallsRecoverAndAbandonedAttemptsEnd : Prop :=
  (∀ (s : State) (a : Attempt) (item : BusItem),
    s.bus.state = .transfer → s.bus.attempt = some a → a.sequence[a.position]? = some item →
    let t := { s with bus := { s.bus with
      state := .recovery
      runSpeed := some s.bus.speed
      driven := a.sequence.dropLast.take (a.position + 1) } }
    (item = .read ∨ item = .stop ∨ (∃ b, item = .write b) →
      (a.abandoned = false → exec (.stall a.position) s = .next t.failHead) ∧
      (a.abandoned = true → exec (.stall a.position) s = .next t)) ∧
    (item = .repeatedStart →
      (a.abandoned = false → exec (.stall a.position) s = .next s) ∧
      (a.abandoned = true → exec (.stall a.position) s = .next t)) ∧
    (item = .start → exec (.stall a.position) s = .next s) ∧
    ∀ k, k ≠ a.position → exec (.stall k) s = .next s) ∧
  (∀ (s : State) (lines : BusLines) (pulses : Nat) (freed : Bool), s.bus.state = .recovery →
    pulses ≤ 9 →
    let idle := fun driven : List BusItem =>
      ({ s with bus := { s.bus with
          state := .idle, runSpeed := none, attempt := none, driven := driven } } : State)
    (freed = true ∨ pulses = 9 →
      exec (.recoveryEnd pulses freed lines) s = .next
        ((idle (s.bus.driven ++ List.replicate pulses .pulse ++ [.stop])).startAttempt lines)) ∧
    exec (.recoveryTimeout pulses lines) s = .next
      ((idle (s.bus.driven ++ List.replicate pulses .pulse)).startAttempt lines)) ∧
  ∀ (s : State) (lines : BusLines) (a : Attempt),
    s.bus.state = .transfer → s.bus.attempt = some a →
    (a.abandoned = true →
      exec (.abandonedAttemptEnd a.position lines) s = .next
        (({ s with bus := { s.bus with
            state := .idle
            runSpeed := none
            attempt := none
            driven := a.sequence.dropLast.take (a.position + 1) ++ [.stop] } } :
          State).startAttempt lines)) ∧
    ∀ k, k ≠ a.position ∨ a.abandoned = false → exec (.abandonedAttemptEnd k lines) s = .next s

/-- R123. SET PROFILE: DENIED from an agent port; BAD_ARG, and BUSY for an invalidation of a profile
that an entry names; otherwise the profile takes exactly the fields given, or becomes invalid. No job
in the fence queue changes. -/
def Obligations.SetProfileWritesTheTable : Prop :=
  ∀ (s : State) (p : PortIx) (args : List Byte), s.nextTake = some (p, ⟨Code.setProfile, args⟩) →
    (p ≠ 4 → exec .setProfile s = .next (s.answer p Code.setProfile .denied [])) ∧
    (p = 4 → args.length = 8 →
      let answered := fun st => exec .setProfile s = .next (s.answer 4 Code.setProfile st [])
      let target := argByte args 2
      let bad := target.toNat < 0x08 ∨ 0x77 < target.toNat ∨ 2 < (argByte args 4).toNat ∨
        1 < (argByte args 6).toNat ∨ (argByte args 6 = 1 ∧ argByte args 4 ≠ 0) ∨
        3 < (argByte args 7).toNat
      (7 < (argByte args 0).toNat ∨ 1 < (argByte args 1).toNat → answered .badArg) ∧
      ∀ n : ProfileNo, n.val = (argByte args 0).toNat →
        (argByte args 1 = 1 → bad → answered .badArg) ∧
        (argByte args 1 = 1 → ¬ bad → ∀ (form : PayloadForm) (retries : Fin 4) (verify : Bool),
          form.code = argByte args 4 → retries.val = (argByte args 7).toNat →
          boolByte verify = argByte args 6 →
          exec .setProfile s = .next
            ({ s with profiles := put s.profiles n (some
                { target := target.setWidth 7
                  register := argByte args 3
                  form := form
                  fixedValue := argByte args 5
                  verify := verify
                  retries := retries }) }.answer 4 Code.setProfile .ok args)) ∧
        (argByte args 1 = 0 → (∃ i e, s.entry i = some e ∧ e.profile = some n) → answered .busy) ∧
        (argByte args 1 = 0 → ¬ (∃ i e, s.entry i = some e ∧ e.profile = some n) →
          exec .setProfile s = .next
            ({ s with profiles := put s.profiles n none }.answer 4 Code.setProfile .ok
              [argByte args 0, 0, 0, 0, 0, 0, 0, 0])))

/-- R126. SET BUS: DENIED from an agent port, BAD_ARG for a speed other than 100 or 400 kHz; otherwise
the bus speed is set. The speed of an attempt or a recovery in progress is not changed. -/
def Obligations.SetBusSetsTheSpeed : Prop :=
  ∀ (s : State) (p : PortIx) (args : List Byte), s.nextTake = some (p, ⟨Code.setBus, args⟩) →
    (p ≠ 4 → exec .setBus s = .next (s.answer p Code.setBus .denied [])) ∧
    (p = 4 → args.length = 1 →
      (argByte args 0 ≠ 1 → argByte args 0 ≠ 4 →
        exec .setBus s = .next (s.answer 4 Code.setBus .badArg [])) ∧
      ∀ v : BusSpeed, argByte args 0 = (match v with | .khz100 => 1 | .khz400 => 4) →
        exec .setBus s = .next
          ({ s with bus := { s.bus with speed := v } }.answer 4 Code.setBus .ok [argByte args 0]))

/-! ### Grant lines (chapter 8) -/

/-- R138. A grant line is at its active level exactly when it is enabled, a defined entry holds it, and
the line mode accepts that entry's state: HELD_EXCLUSIVE for both modes, HELD_SHARED for ANY alone. The
pin is high at the active level of ACTIVE_HIGH and at the off level of ACTIVE_LOW (R136). By the laws of
the directory at most one entry holds a line (R13). -/
def Obligations.GrantLinesFollowTheirEntries : Prop :=
  (∀ (s : State) (n : LineNo), s.directoryLaws →
    (s.lineActive n = true ↔
      (s.lines.get n).enabled = true ∧ ∃ i e b, s.entry i = some e ∧ e.line = some b ∧ b.line = n ∧
        (e.state = .heldExclusive ∨ (e.state = .heldShared ∧ b.mode = .any)))) ∧
  ∀ (s : State) (n : LineNo), s.lineHigh n =
    if (s.lines.get n).polarity = .activeHigh then s.lineActive n else !s.lineActive n

/-- R137. SET LINE: DENIED from an agent port, BAD_ARG out of range; otherwise the line takes the
polarity and enable given, and the answer carries them with the line's number, the slot and line mode of
the bound entry, or 0xFF twice, and the pin level as the command leaves it. -/
def Obligations.SetLineConfiguresTheLine : Prop :=
  ∀ (s : State) (p : PortIx) (args : List Byte), s.nextTake = some (p, ⟨Code.setLine, args⟩) →
    (p ≠ 4 → exec .setLine s = .next (s.answer p Code.setLine .denied [])) ∧
    (p = 4 → args.length = 3 →
      (15 < (argByte args 0).toNat ∨ 1 < (argByte args 1).toNat ∨ 1 < (argByte args 2).toNat →
        exec .setLine s = .next (s.answer 4 Code.setLine .badArg [])) ∧
      ∀ (n : LineNo) (polarity : Polarity) (on : Bool) (t : State),
        n.val = (argByte args 0).toNat → polarity.code = argByte args 1 → boolByte on = argByte args 2 →
        t = { s with lines := put s.lines n { polarity := polarity, enabled := on } } →
        ((∀ i e b, s.entry i = some e → e.line = some b → b.line ≠ n) →
          exec .setLine s = .next (t.answer 4 Code.setLine .ok
            (args ++ [0xFF, 0xFF, boolByte (t.lineHigh n)]))) ∧
        ∀ i e b, s.directoryLaws → s.entry i = some e → e.line = some b → b.line = n →
          exec .setLine s = .next (t.answer 4 Code.setLine .ok
            (args ++ [natByte i, b.mode.code, boolByte (t.lineHigh n)])))

/-! ### Warm reset (R171 and the rules it gathers) -/

/-- R20, R21, R40, R71, R102, R120, R121, R122, R125, R134, R143, R153, R154, R171. WARM RESET: every
record and session goes, with issue numbers and tags kept; every entry keeps its configuration, loses
its holders, its queue and its staged policy, which is applied, advances its generation, and settles
into FENCING, when it has a profile and was HELD_EXCLUSIVE, FENCING or FENCE_FAILED, or into FREE; the
fence queue is rebuilt from the fencing entries in ascending slot order; an attempt on the bus is
abandoned; the alert set is emptied; every agent port is IDLE with RESET_SEEN; clock, profiles, bus
speed, lines and thresholds are kept. The answer gives the number of jobs of the rebuilt queue. The
model's choices: the jobs are counted (log 19), and the alert set is emptied (log 22), before the head of
the rebuilt queue starts, and may fail for good, in the same event. -/
def Obligations.WarmResetSettlesEveryBlock : Prop :=
  ∀ (s : State) (lines : BusLines), s.nextTake = some (4, ⟨Code.warmReset, []⟩) →
    ∃ w : State,
      exec (.warmReset lines) s = .next
        ((w.startAttempt lines).answer 4 Code.warmReset .ok [natByte w.fenceQueue.length]) ∧
      (∀ i, s.entry i = none → w.entry i = none) ∧
      (∀ i e, s.entry i = some e →
        let fenced := (e.state = .heldExclusive ∨ e.state = .fencing ∨ e.state = .fenceFailed) ∧
          ∃ n p, e.profile = some n ∧ s.profiles.get n = some p
        ∃ st : EntryState, (fenced → st = .fencing) ∧ (¬ fenced → st = .free) ∧
          w.entry i = some
            { e with
              state := st
              generation := if e.generation = 0xFFFFFFFF then e.generation else e.generation + 1
              current := e.staged.getD e.current
              staged := none
              holders := 0
              exclusiveHolder := none
              queue := [] }) ∧
      (∀ l, w.lease l = { s.lease l with record := none }) ∧
      (∀ i, w.sessionCell i = { s.sessionCell i with session := none }) ∧
      (w.fenceQueue.map FenceJob.resource).Pairwise (· < ·) ∧
      (∀ j, j ∈ w.fenceQueue ↔ ∃ e n p, w.entry j.resource = some e ∧ e.state = .fencing ∧
        e.profile = some n ∧ s.profiles.get n = some p ∧
        j = { resource := j.resource, generation := e.generation, profile := p, attempts := 0,
              state := .queued }) ∧
      w.bus = (match s.bus.state, s.bus.attempt with
        | .transfer, some a => { s.bus with attempt := some { a with abandoned := true } }
        | _, _ => s.bus) ∧
      w.alerts.total = 0 ∧
      (∀ p, w.port p = { s.port p with state := .idle, rejected := false, resetSeen := true }) ∧
      w.lastServed = 4 ∧ w.clock = s.clock ∧ w.profiles = s.profiles ∧ w.lines = s.lines ∧
      w.thresholds = s.thresholds ∧ w.addressStrap = s.addressStrap ∧ w.started = s.started

/-! ### Headline statements -/

/-- A command frame as an agent sends it is read back as it was made: its bytes are not malformed, and
the frame parsed from them is the frame, for every code and every argument string of at most 24 bytes;
and a frame with another CRC byte is malformed (R161, R162). The CRC-8 starts at 0xFF, and each byte is
XORed in and shifted eight times with 0x07 (R175). Fields of 16 and 32 bits go most significant byte
first, in arguments and in answers, and the codes of answers and arguments are those of the tables (R170,
R174, R176, R177). -/
def Obligations.FramesSurviveTheWire : Prop :=
  (∀ f : Frame, f.bytes = [f.code, natByte f.args.length] ++ f.args ++
    [crc8 ([f.code, natByte f.args.length] ++ f.args)]) ∧
  (∀ f : Frame, f.args.length ≤ 24 →
    ¬ malformed f.bytes 0 ∧ parseFrame f.bytes 0 = some f) ∧
  (∀ (f : Frame) (crc : Byte), f.args.length ≤ 24 → crc ≠ f.bytes.getLastD 0 →
    malformed (f.bytes.dropLast ++ [crc]) 0) ∧
  (∀ (bytes : List Byte) (loose : Nat), malformed bytes loose ↔ parseFrame bytes loose = none) ∧
  (crc8 [] = 0xFF ∧ ∀ (bytes : List Byte) (b : Byte),
    let shift := fun r : Byte => if r.msb then (r <<< 1) ^^^ 0x07 else r <<< 1
    crc8 (bytes ++ [b]) = shift (shift (shift (shift (shift (shift (shift (shift
      (crc8 bytes ^^^ b))))))))) ∧
  crc8 [0x09] = 0xCC ∧ crc8 [0x09, 0x00] = 0x6A ∧
  (∀ (w : Word) (h : Half),
    wordBytes w = [natByte (w.toNat / 2 ^ 24), natByte (w.toNat / 2 ^ 16), natByte (w.toNat / 2 ^ 8),
      natByte w.toNat] ∧
    halfBytes h = [natByte (h.toNat / 2 ^ 8), natByte h.toNat] ∧
    ∀ before after : List Byte, argWord (before ++ wordBytes w ++ after) before.length = w ∧
      argHalf (before ++ halfBytes h ++ after) before.length = h) ∧
  [Status.ok, .queued, .none_, .badArg, .unknownCommand, .frameError, .denied, .noResource, .exists_,
    .directoryFull, .lineBound, .tableFull, .quota, .sessionsFull, .stale, .notOwner, .lapsed, .duplicate,
    .conflict, .spent, .notHeld, .ended, .limit, .busy, .badState, .clockRunning].map Status.code =
    [0x00, 0x01, 0x02, 0x10, 0x11, 0x12, 0x13, 0x20, 0x21, 0x22, 0x23, 0x30, 0x31, 0x32, 0x40, 0x41, 0x42,
      0x50, 0x51, 0x52, 0x53, 0x54, 0x55, 0x60, 0x61, 0x62] ∧
  [EntryState.free, .heldShared, .heldExclusive, .fencing, .fenceFailed].map EntryState.code =
    [0, 1, 2, 3, 4] ∧
  [LeaseState.waiting, .active, .warned, .ended].map LeaseState.code = [1, 2, 3, 4] ∧
  [LeaseMode.shared, .exclusive].map LeaseMode.code = [0, 1] ∧
  [LineMode.any, .exclusive].map LineMode.code = [0, 1] ∧
  [Polarity.activeHigh, .activeLow].map Polarity.code = [0, 1] ∧
  [PayloadForm.fixed, .generation, .fixedThenGeneration].map PayloadForm.code = [0, 1, 2] ∧
  [NoticeKind.granted, .warning, .ended].map NoticeKind.code = [1, 2, 3] ∧
  [SessionNotice.sessionWarning, .sessionLapsed].map SessionNotice.code = [4, 5] ∧
  [none, some EndCause.expired, some .forced, some .waitExpired, some .spent].map EndCause.code =
    [0, 1, 2, 3, 4] ∧
  [none, some LapseCause.expired, some .purged].map LapseCause.code = [0, 1, 2]

/-- Every step keeps the laws of the directory: a key and terms that are not 0 (R2), the holder count and holder that each
state of an entry gives, an empty queue and no staged policy in FREE (R3, R10), no key twice (R1), no
line twice (R13) and no binding to an invalid profile (R12). -/
def Obligations.StepsKeepTheDirectoryLaws : Prop :=
  ∀ s t : State, s.directoryLaws → step s = .next t → t.directoryLaws

/-- Every step keeps the ownership of records and the window of marks: each record belongs to one live
session and stands once in its list (R25), the fields of a session agree with its state (R84), no session
is above its quota (R92), and every mark lies at most 65535 ticks ahead of the count (R72, R73). -/
def Obligations.StepsKeepOwnershipAndMarks : Prop :=
  ∀ s t : State, s.ownershipLaws → s.markLaws → step s = .next t → t.ownershipLaws ∧ t.markLaws

/-- Every step keeps the agreement of records and entries: R3, R24, R26, R42 and R50; and in every state
that it reaches the holder count and the length of the wait queue are together at most 16 (R2, R49). -/
def Obligations.StepsKeepTheRecordLaws : Prop :=
  ∀ s t : State, s.lawful → step s = .next t →
    t.recordLaws ∧ ∀ i e, t.entry i = some e → e.holders + e.queue.length ≤ 16

/-- Every step keeps the laws of the fence queue: an entry stands in it exactly while it is FENCING, and
then once (R108), only the head has started, and the head is waiting for nothing while the bus is IDLE
(R107, R109); and an attempt in TRANSFER is the head's, at a place of its sequence, unless it was abandoned
(R125, R134). -/
def Obligations.StepsKeepTheFenceLaws : Prop :=
  ∀ s t : State, s.lawful → step s = .next t → t.fenceLaws

/-- R6. In every step from a lawful state, the generation of an entry that stays defined never
decreases, and a record that is given an EXCLUSIVE token is given one greater than the generation that
its entry had. -/
def Obligations.GenerationsNeverDecrease : Prop :=
  ∀ s t : State, s.lawful → step s = .next t →
    (∀ i e f, s.entry i = some e → t.entry i = some f → e.generation.toNat ≤ f.generation.toNat) ∧
    ∀ l r e g, t.record l = some r → r.mode = .exclusive → r.token = some g →
      (∀ q, s.record l = some q → q.token ≠ some g) → s.entry r.resource = some e →
      e.generation.toNat < g.toNat

/-- The laws hold right after reset. -/
def Obligations.LawsHoldAtReset : Prop := State.reset.lawful
end

