-- ==== Sys2Proof/Laws/State.lean ====
section
/-! SUPPORT. One lemma for each field of State and each update of the tables, and what a slot reads as
after a write. -/

namespace Sys2Proof.Machine

/-! ### setEntry -/

@[simp] theorem State.setEntry_leases (s : State) (i : DirSlot) (e : Option Entry) :
    (s.setEntry i e).leases = s.leases := rfl

@[simp] theorem State.setEntry_sessions (s : State) (i : DirSlot) (e : Option Entry) :
    (s.setEntry i e).sessions = s.sessions := rfl

@[simp] theorem State.setEntry_clock (s : State) (i : DirSlot) (e : Option Entry) :
    (s.setEntry i e).clock = s.clock := rfl

@[simp] theorem State.setEntry_fenceQueue (s : State) (i : DirSlot) (e : Option Entry) :
    (s.setEntry i e).fenceQueue = s.fenceQueue := rfl

@[simp] theorem State.setEntry_profiles (s : State) (i : DirSlot) (e : Option Entry) :
    (s.setEntry i e).profiles = s.profiles := rfl

@[simp] theorem State.setEntry_bus (s : State) (i : DirSlot) (e : Option Entry) :
    (s.setEntry i e).bus = s.bus := rfl

@[simp] theorem State.setEntry_lines (s : State) (i : DirSlot) (e : Option Entry) :
    (s.setEntry i e).lines = s.lines := rfl

@[simp] theorem State.setEntry_thresholds (s : State) (i : DirSlot) (e : Option Entry) :
    (s.setEntry i e).thresholds = s.thresholds := rfl

@[simp] theorem State.setEntry_alerts (s : State) (i : DirSlot) (e : Option Entry) :
    (s.setEntry i e).alerts = s.alerts := rfl

@[simp] theorem State.setEntry_ports (s : State) (i : DirSlot) (e : Option Entry) :
    (s.setEntry i e).ports = s.ports := rfl

@[simp] theorem State.setEntry_lastServed (s : State) (i : DirSlot) (e : Option Entry) :
    (s.setEntry i e).lastServed = s.lastServed := rfl

@[simp] theorem State.setEntry_addressStrap (s : State) (i : DirSlot) (e : Option Entry) :
    (s.setEntry i e).addressStrap = s.addressStrap := rfl

@[simp] theorem State.setEntry_started (s : State) (i : DirSlot) (e : Option Entry) :
    (s.setEntry i e).started = s.started := rfl

@[simp] theorem State.setEntry_resetLow (s : State) (i : DirSlot) (e : Option Entry) :
    (s.setEntry i e).resetLow = s.resetLow := rfl

@[simp] theorem State.setEntry_mpAcknowledged (s : State) (i : DirSlot) (e : Option Entry) :
    (s.setEntry i e).mpAcknowledged = s.mpAcknowledged := rfl

@[simp] theorem State.setEntry_pending (s : State) (i : DirSlot) (e : Option Entry) :
    (s.setEntry i e).pending = s.pending := rfl

/-! ### setLease -/

@[simp] theorem State.setLease_directory (s : State) (l : LeaseSlot) (c : LeaseCell) :
    (s.setLease l c).directory = s.directory := rfl

@[simp] theorem State.setLease_sessions (s : State) (l : LeaseSlot) (c : LeaseCell) :
    (s.setLease l c).sessions = s.sessions := rfl

@[simp] theorem State.setLease_clock (s : State) (l : LeaseSlot) (c : LeaseCell) :
    (s.setLease l c).clock = s.clock := rfl

@[simp] theorem State.setLease_fenceQueue (s : State) (l : LeaseSlot) (c : LeaseCell) :
    (s.setLease l c).fenceQueue = s.fenceQueue := rfl

@[simp] theorem State.setLease_profiles (s : State) (l : LeaseSlot) (c : LeaseCell) :
    (s.setLease l c).profiles = s.profiles := rfl

@[simp] theorem State.setLease_bus (s : State) (l : LeaseSlot) (c : LeaseCell) :
    (s.setLease l c).bus = s.bus := rfl

@[simp] theorem State.setLease_lines (s : State) (l : LeaseSlot) (c : LeaseCell) :
    (s.setLease l c).lines = s.lines := rfl

@[simp] theorem State.setLease_thresholds (s : State) (l : LeaseSlot) (c : LeaseCell) :
    (s.setLease l c).thresholds = s.thresholds := rfl

@[simp] theorem State.setLease_alerts (s : State) (l : LeaseSlot) (c : LeaseCell) :
    (s.setLease l c).alerts = s.alerts := rfl

@[simp] theorem State.setLease_ports (s : State) (l : LeaseSlot) (c : LeaseCell) :
    (s.setLease l c).ports = s.ports := rfl

@[simp] theorem State.setLease_lastServed (s : State) (l : LeaseSlot) (c : LeaseCell) :
    (s.setLease l c).lastServed = s.lastServed := rfl

@[simp] theorem State.setLease_addressStrap (s : State) (l : LeaseSlot) (c : LeaseCell) :
    (s.setLease l c).addressStrap = s.addressStrap := rfl

@[simp] theorem State.setLease_started (s : State) (l : LeaseSlot) (c : LeaseCell) :
    (s.setLease l c).started = s.started := rfl

@[simp] theorem State.setLease_resetLow (s : State) (l : LeaseSlot) (c : LeaseCell) :
    (s.setLease l c).resetLow = s.resetLow := rfl

@[simp] theorem State.setLease_mpAcknowledged (s : State) (l : LeaseSlot) (c : LeaseCell) :
    (s.setLease l c).mpAcknowledged = s.mpAcknowledged := rfl

@[simp] theorem State.setLease_pending (s : State) (l : LeaseSlot) (c : LeaseCell) :
    (s.setLease l c).pending = s.pending := rfl

/-! ### setRecord -/

@[simp] theorem State.setRecord_directory (s : State) (l : LeaseSlot) (r : Option LeaseRecord) :
    (s.setRecord l r).directory = s.directory := rfl

@[simp] theorem State.setRecord_sessions (s : State) (l : LeaseSlot) (r : Option LeaseRecord) :
    (s.setRecord l r).sessions = s.sessions := rfl

@[simp] theorem State.setRecord_clock (s : State) (l : LeaseSlot) (r : Option LeaseRecord) :
    (s.setRecord l r).clock = s.clock := rfl

@[simp] theorem State.setRecord_fenceQueue (s : State) (l : LeaseSlot) (r : Option LeaseRecord) :
    (s.setRecord l r).fenceQueue = s.fenceQueue := rfl

@[simp] theorem State.setRecord_profiles (s : State) (l : LeaseSlot) (r : Option LeaseRecord) :
    (s.setRecord l r).profiles = s.profiles := rfl

@[simp] theorem State.setRecord_bus (s : State) (l : LeaseSlot) (r : Option LeaseRecord) :
    (s.setRecord l r).bus = s.bus := rfl

@[simp] theorem State.setRecord_lines (s : State) (l : LeaseSlot) (r : Option LeaseRecord) :
    (s.setRecord l r).lines = s.lines := rfl

@[simp] theorem State.setRecord_thresholds (s : State) (l : LeaseSlot) (r : Option LeaseRecord) :
    (s.setRecord l r).thresholds = s.thresholds := rfl

@[simp] theorem State.setRecord_alerts (s : State) (l : LeaseSlot) (r : Option LeaseRecord) :
    (s.setRecord l r).alerts = s.alerts := rfl

@[simp] theorem State.setRecord_ports (s : State) (l : LeaseSlot) (r : Option LeaseRecord) :
    (s.setRecord l r).ports = s.ports := rfl

@[simp] theorem State.setRecord_lastServed (s : State) (l : LeaseSlot) (r : Option LeaseRecord) :
    (s.setRecord l r).lastServed = s.lastServed := rfl

@[simp] theorem State.setRecord_addressStrap (s : State) (l : LeaseSlot) (r : Option LeaseRecord) :
    (s.setRecord l r).addressStrap = s.addressStrap := rfl

@[simp] theorem State.setRecord_started (s : State) (l : LeaseSlot) (r : Option LeaseRecord) :
    (s.setRecord l r).started = s.started := rfl

@[simp] theorem State.setRecord_resetLow (s : State) (l : LeaseSlot) (r : Option LeaseRecord) :
    (s.setRecord l r).resetLow = s.resetLow := rfl

@[simp] theorem State.setRecord_mpAcknowledged (s : State) (l : LeaseSlot) (r : Option LeaseRecord) :
    (s.setRecord l r).mpAcknowledged = s.mpAcknowledged := rfl

@[simp] theorem State.setRecord_pending (s : State) (l : LeaseSlot) (r : Option LeaseRecord) :
    (s.setRecord l r).pending = s.pending := rfl

/-! ### setSessionCell -/

@[simp] theorem State.setSessionCell_directory (s : State) (i : SessSlot) (c : SessionCell) :
    (s.setSessionCell i c).directory = s.directory := rfl

@[simp] theorem State.setSessionCell_leases (s : State) (i : SessSlot) (c : SessionCell) :
    (s.setSessionCell i c).leases = s.leases := rfl

@[simp] theorem State.setSessionCell_clock (s : State) (i : SessSlot) (c : SessionCell) :
    (s.setSessionCell i c).clock = s.clock := rfl

@[simp] theorem State.setSessionCell_fenceQueue (s : State) (i : SessSlot) (c : SessionCell) :
    (s.setSessionCell i c).fenceQueue = s.fenceQueue := rfl

@[simp] theorem State.setSessionCell_profiles (s : State) (i : SessSlot) (c : SessionCell) :
    (s.setSessionCell i c).profiles = s.profiles := rfl

@[simp] theorem State.setSessionCell_bus (s : State) (i : SessSlot) (c : SessionCell) :
    (s.setSessionCell i c).bus = s.bus := rfl

@[simp] theorem State.setSessionCell_lines (s : State) (i : SessSlot) (c : SessionCell) :
    (s.setSessionCell i c).lines = s.lines := rfl

@[simp] theorem State.setSessionCell_thresholds (s : State) (i : SessSlot) (c : SessionCell) :
    (s.setSessionCell i c).thresholds = s.thresholds := rfl

@[simp] theorem State.setSessionCell_alerts (s : State) (i : SessSlot) (c : SessionCell) :
    (s.setSessionCell i c).alerts = s.alerts := rfl

@[simp] theorem State.setSessionCell_ports (s : State) (i : SessSlot) (c : SessionCell) :
    (s.setSessionCell i c).ports = s.ports := rfl

@[simp] theorem State.setSessionCell_lastServed (s : State) (i : SessSlot) (c : SessionCell) :
    (s.setSessionCell i c).lastServed = s.lastServed := rfl

@[simp] theorem State.setSessionCell_addressStrap (s : State) (i : SessSlot) (c : SessionCell) :
    (s.setSessionCell i c).addressStrap = s.addressStrap := rfl

@[simp] theorem State.setSessionCell_started (s : State) (i : SessSlot) (c : SessionCell) :
    (s.setSessionCell i c).started = s.started := rfl

@[simp] theorem State.setSessionCell_resetLow (s : State) (i : SessSlot) (c : SessionCell) :
    (s.setSessionCell i c).resetLow = s.resetLow := rfl

@[simp] theorem State.setSessionCell_mpAcknowledged (s : State) (i : SessSlot) (c : SessionCell) :
    (s.setSessionCell i c).mpAcknowledged = s.mpAcknowledged := rfl

@[simp] theorem State.setSessionCell_pending (s : State) (i : SessSlot) (c : SessionCell) :
    (s.setSessionCell i c).pending = s.pending := rfl

/-! ### setSession -/

@[simp] theorem State.setSession_directory (s : State) (i : SessSlot) (x : Option Session) :
    (s.setSession i x).directory = s.directory := rfl

@[simp] theorem State.setSession_leases (s : State) (i : SessSlot) (x : Option Session) :
    (s.setSession i x).leases = s.leases := rfl

@[simp] theorem State.setSession_clock (s : State) (i : SessSlot) (x : Option Session) :
    (s.setSession i x).clock = s.clock := rfl

@[simp] theorem State.setSession_fenceQueue (s : State) (i : SessSlot) (x : Option Session) :
    (s.setSession i x).fenceQueue = s.fenceQueue := rfl

@[simp] theorem State.setSession_profiles (s : State) (i : SessSlot) (x : Option Session) :
    (s.setSession i x).profiles = s.profiles := rfl

@[simp] theorem State.setSession_bus (s : State) (i : SessSlot) (x : Option Session) :
    (s.setSession i x).bus = s.bus := rfl

@[simp] theorem State.setSession_lines (s : State) (i : SessSlot) (x : Option Session) :
    (s.setSession i x).lines = s.lines := rfl

@[simp] theorem State.setSession_thresholds (s : State) (i : SessSlot) (x : Option Session) :
    (s.setSession i x).thresholds = s.thresholds := rfl

@[simp] theorem State.setSession_alerts (s : State) (i : SessSlot) (x : Option Session) :
    (s.setSession i x).alerts = s.alerts := rfl

@[simp] theorem State.setSession_ports (s : State) (i : SessSlot) (x : Option Session) :
    (s.setSession i x).ports = s.ports := rfl

@[simp] theorem State.setSession_lastServed (s : State) (i : SessSlot) (x : Option Session) :
    (s.setSession i x).lastServed = s.lastServed := rfl

@[simp] theorem State.setSession_addressStrap (s : State) (i : SessSlot) (x : Option Session) :
    (s.setSession i x).addressStrap = s.addressStrap := rfl

@[simp] theorem State.setSession_started (s : State) (i : SessSlot) (x : Option Session) :
    (s.setSession i x).started = s.started := rfl

@[simp] theorem State.setSession_resetLow (s : State) (i : SessSlot) (x : Option Session) :
    (s.setSession i x).resetLow = s.resetLow := rfl

@[simp] theorem State.setSession_mpAcknowledged (s : State) (i : SessSlot) (x : Option Session) :
    (s.setSession i x).mpAcknowledged = s.mpAcknowledged := rfl

@[simp] theorem State.setSession_pending (s : State) (i : SessSlot) (x : Option Session) :
    (s.setSession i x).pending = s.pending := rfl

/-! ### setPort -/

@[simp] theorem State.setPort_directory (s : State) (p : PortIx) (x : Port) :
    (s.setPort p x).directory = s.directory := rfl

@[simp] theorem State.setPort_leases (s : State) (p : PortIx) (x : Port) :
    (s.setPort p x).leases = s.leases := rfl

@[simp] theorem State.setPort_sessions (s : State) (p : PortIx) (x : Port) :
    (s.setPort p x).sessions = s.sessions := rfl

@[simp] theorem State.setPort_clock (s : State) (p : PortIx) (x : Port) :
    (s.setPort p x).clock = s.clock := rfl

@[simp] theorem State.setPort_fenceQueue (s : State) (p : PortIx) (x : Port) :
    (s.setPort p x).fenceQueue = s.fenceQueue := rfl

@[simp] theorem State.setPort_profiles (s : State) (p : PortIx) (x : Port) :
    (s.setPort p x).profiles = s.profiles := rfl

@[simp] theorem State.setPort_bus (s : State) (p : PortIx) (x : Port) :
    (s.setPort p x).bus = s.bus := rfl

@[simp] theorem State.setPort_lines (s : State) (p : PortIx) (x : Port) :
    (s.setPort p x).lines = s.lines := rfl

@[simp] theorem State.setPort_thresholds (s : State) (p : PortIx) (x : Port) :
    (s.setPort p x).thresholds = s.thresholds := rfl

@[simp] theorem State.setPort_alerts (s : State) (p : PortIx) (x : Port) :
    (s.setPort p x).alerts = s.alerts := rfl

@[simp] theorem State.setPort_lastServed (s : State) (p : PortIx) (x : Port) :
    (s.setPort p x).lastServed = s.lastServed := rfl

@[simp] theorem State.setPort_addressStrap (s : State) (p : PortIx) (x : Port) :
    (s.setPort p x).addressStrap = s.addressStrap := rfl

@[simp] theorem State.setPort_started (s : State) (p : PortIx) (x : Port) :
    (s.setPort p x).started = s.started := rfl

@[simp] theorem State.setPort_resetLow (s : State) (p : PortIx) (x : Port) :
    (s.setPort p x).resetLow = s.resetLow := rfl

@[simp] theorem State.setPort_mpAcknowledged (s : State) (p : PortIx) (x : Port) :
    (s.setPort p x).mpAcknowledged = s.mpAcknowledged := rfl

@[simp] theorem State.setPort_pending (s : State) (p : PortIx) (x : Port) :
    (s.setPort p x).pending = s.pending := rfl

/-! ### raiseFenceFailed -/

@[simp] theorem State.raiseFenceFailed_directory (s : State) (i : DirSlot) :
    (s.raiseFenceFailed i).directory = s.directory := rfl

@[simp] theorem State.raiseFenceFailed_leases (s : State) (i : DirSlot) :
    (s.raiseFenceFailed i).leases = s.leases := rfl

@[simp] theorem State.raiseFenceFailed_sessions (s : State) (i : DirSlot) :
    (s.raiseFenceFailed i).sessions = s.sessions := rfl

@[simp] theorem State.raiseFenceFailed_clock (s : State) (i : DirSlot) :
    (s.raiseFenceFailed i).clock = s.clock := rfl

@[simp] theorem State.raiseFenceFailed_fenceQueue (s : State) (i : DirSlot) :
    (s.raiseFenceFailed i).fenceQueue = s.fenceQueue := rfl

@[simp] theorem State.raiseFenceFailed_profiles (s : State) (i : DirSlot) :
    (s.raiseFenceFailed i).profiles = s.profiles := rfl

@[simp] theorem State.raiseFenceFailed_bus (s : State) (i : DirSlot) :
    (s.raiseFenceFailed i).bus = s.bus := rfl

@[simp] theorem State.raiseFenceFailed_lines (s : State) (i : DirSlot) :
    (s.raiseFenceFailed i).lines = s.lines := rfl

@[simp] theorem State.raiseFenceFailed_thresholds (s : State) (i : DirSlot) :
    (s.raiseFenceFailed i).thresholds = s.thresholds := rfl

@[simp] theorem State.raiseFenceFailed_ports (s : State) (i : DirSlot) :
    (s.raiseFenceFailed i).ports = s.ports := rfl

@[simp] theorem State.raiseFenceFailed_lastServed (s : State) (i : DirSlot) :
    (s.raiseFenceFailed i).lastServed = s.lastServed := rfl

@[simp] theorem State.raiseFenceFailed_addressStrap (s : State) (i : DirSlot) :
    (s.raiseFenceFailed i).addressStrap = s.addressStrap := rfl

@[simp] theorem State.raiseFenceFailed_started (s : State) (i : DirSlot) :
    (s.raiseFenceFailed i).started = s.started := rfl

@[simp] theorem State.raiseFenceFailed_resetLow (s : State) (i : DirSlot) :
    (s.raiseFenceFailed i).resetLow = s.resetLow := rfl

@[simp] theorem State.raiseFenceFailed_mpAcknowledged (s : State) (i : DirSlot) :
    (s.raiseFenceFailed i).mpAcknowledged = s.mpAcknowledged := rfl

@[simp] theorem State.raiseFenceFailed_pending (s : State) (i : DirSlot) :
    (s.raiseFenceFailed i).pending = s.pending := rfl

/-! ### raiseSpent -/

@[simp] theorem State.raiseSpent_directory (s : State) (i : DirSlot) :
    (s.raiseSpent i).directory = s.directory := rfl

@[simp] theorem State.raiseSpent_leases (s : State) (i : DirSlot) :
    (s.raiseSpent i).leases = s.leases := rfl

@[simp] theorem State.raiseSpent_sessions (s : State) (i : DirSlot) :
    (s.raiseSpent i).sessions = s.sessions := rfl

@[simp] theorem State.raiseSpent_clock (s : State) (i : DirSlot) :
    (s.raiseSpent i).clock = s.clock := rfl

@[simp] theorem State.raiseSpent_fenceQueue (s : State) (i : DirSlot) :
    (s.raiseSpent i).fenceQueue = s.fenceQueue := rfl

@[simp] theorem State.raiseSpent_profiles (s : State) (i : DirSlot) :
    (s.raiseSpent i).profiles = s.profiles := rfl

@[simp] theorem State.raiseSpent_bus (s : State) (i : DirSlot) :
    (s.raiseSpent i).bus = s.bus := rfl

@[simp] theorem State.raiseSpent_lines (s : State) (i : DirSlot) :
    (s.raiseSpent i).lines = s.lines := rfl

@[simp] theorem State.raiseSpent_thresholds (s : State) (i : DirSlot) :
    (s.raiseSpent i).thresholds = s.thresholds := rfl

@[simp] theorem State.raiseSpent_ports (s : State) (i : DirSlot) :
    (s.raiseSpent i).ports = s.ports := rfl

@[simp] theorem State.raiseSpent_lastServed (s : State) (i : DirSlot) :
    (s.raiseSpent i).lastServed = s.lastServed := rfl

@[simp] theorem State.raiseSpent_addressStrap (s : State) (i : DirSlot) :
    (s.raiseSpent i).addressStrap = s.addressStrap := rfl

@[simp] theorem State.raiseSpent_started (s : State) (i : DirSlot) :
    (s.raiseSpent i).started = s.started := rfl

@[simp] theorem State.raiseSpent_resetLow (s : State) (i : DirSlot) :
    (s.raiseSpent i).resetLow = s.resetLow := rfl

@[simp] theorem State.raiseSpent_mpAcknowledged (s : State) (i : DirSlot) :
    (s.raiseSpent i).mpAcknowledged = s.mpAcknowledged := rfl

@[simp] theorem State.raiseSpent_pending (s : State) (i : DirSlot) :
    (s.raiseSpent i).pending = s.pending := rfl

/-! ### raiseLapsed -/

@[simp] theorem State.raiseLapsed_directory (s : State) (i : SessSlot) (a : LapseAlert) :
    (s.raiseLapsed i a).directory = s.directory := rfl

@[simp] theorem State.raiseLapsed_leases (s : State) (i : SessSlot) (a : LapseAlert) :
    (s.raiseLapsed i a).leases = s.leases := rfl

@[simp] theorem State.raiseLapsed_sessions (s : State) (i : SessSlot) (a : LapseAlert) :
    (s.raiseLapsed i a).sessions = s.sessions := rfl

@[simp] theorem State.raiseLapsed_clock (s : State) (i : SessSlot) (a : LapseAlert) :
    (s.raiseLapsed i a).clock = s.clock := rfl

@[simp] theorem State.raiseLapsed_fenceQueue (s : State) (i : SessSlot) (a : LapseAlert) :
    (s.raiseLapsed i a).fenceQueue = s.fenceQueue := rfl

@[simp] theorem State.raiseLapsed_profiles (s : State) (i : SessSlot) (a : LapseAlert) :
    (s.raiseLapsed i a).profiles = s.profiles := rfl

@[simp] theorem State.raiseLapsed_bus (s : State) (i : SessSlot) (a : LapseAlert) :
    (s.raiseLapsed i a).bus = s.bus := rfl

@[simp] theorem State.raiseLapsed_lines (s : State) (i : SessSlot) (a : LapseAlert) :
    (s.raiseLapsed i a).lines = s.lines := rfl

@[simp] theorem State.raiseLapsed_thresholds (s : State) (i : SessSlot) (a : LapseAlert) :
    (s.raiseLapsed i a).thresholds = s.thresholds := rfl

@[simp] theorem State.raiseLapsed_ports (s : State) (i : SessSlot) (a : LapseAlert) :
    (s.raiseLapsed i a).ports = s.ports := rfl

@[simp] theorem State.raiseLapsed_lastServed (s : State) (i : SessSlot) (a : LapseAlert) :
    (s.raiseLapsed i a).lastServed = s.lastServed := rfl

@[simp] theorem State.raiseLapsed_addressStrap (s : State) (i : SessSlot) (a : LapseAlert) :
    (s.raiseLapsed i a).addressStrap = s.addressStrap := rfl

@[simp] theorem State.raiseLapsed_started (s : State) (i : SessSlot) (a : LapseAlert) :
    (s.raiseLapsed i a).started = s.started := rfl

@[simp] theorem State.raiseLapsed_resetLow (s : State) (i : SessSlot) (a : LapseAlert) :
    (s.raiseLapsed i a).resetLow = s.resetLow := rfl

@[simp] theorem State.raiseLapsed_mpAcknowledged (s : State) (i : SessSlot) (a : LapseAlert) :
    (s.raiseLapsed i a).mpAcknowledged = s.mpAcknowledged := rfl

@[simp] theorem State.raiseLapsed_pending (s : State) (i : SessSlot) (a : LapseAlert) :
    (s.raiseLapsed i a).pending = s.pending := rfl

/-! ### respond -/

@[simp] theorem State.respond_lastServed (s : State) (p : PortIx) (r : Reply) :
    (s.respond p r).lastServed = p := rfl

@[simp] theorem State.respond_directory (s : State) (p : PortIx) (r : Reply) :
    (s.respond p r).directory = s.directory := rfl

@[simp] theorem State.respond_leases (s : State) (p : PortIx) (r : Reply) :
    (s.respond p r).leases = s.leases := rfl

@[simp] theorem State.respond_sessions (s : State) (p : PortIx) (r : Reply) :
    (s.respond p r).sessions = s.sessions := rfl

@[simp] theorem State.respond_clock (s : State) (p : PortIx) (r : Reply) :
    (s.respond p r).clock = s.clock := rfl

@[simp] theorem State.respond_fenceQueue (s : State) (p : PortIx) (r : Reply) :
    (s.respond p r).fenceQueue = s.fenceQueue := rfl

@[simp] theorem State.respond_profiles (s : State) (p : PortIx) (r : Reply) :
    (s.respond p r).profiles = s.profiles := rfl

@[simp] theorem State.respond_bus (s : State) (p : PortIx) (r : Reply) :
    (s.respond p r).bus = s.bus := rfl

@[simp] theorem State.respond_lines (s : State) (p : PortIx) (r : Reply) :
    (s.respond p r).lines = s.lines := rfl

@[simp] theorem State.respond_thresholds (s : State) (p : PortIx) (r : Reply) :
    (s.respond p r).thresholds = s.thresholds := rfl

@[simp] theorem State.respond_alerts (s : State) (p : PortIx) (r : Reply) :
    (s.respond p r).alerts = s.alerts := rfl

@[simp] theorem State.respond_addressStrap (s : State) (p : PortIx) (r : Reply) :
    (s.respond p r).addressStrap = s.addressStrap := rfl

@[simp] theorem State.respond_started (s : State) (p : PortIx) (r : Reply) :
    (s.respond p r).started = s.started := rfl

@[simp] theorem State.respond_resetLow (s : State) (p : PortIx) (r : Reply) :
    (s.respond p r).resetLow = s.resetLow := rfl

@[simp] theorem State.respond_mpAcknowledged (s : State) (p : PortIx) (r : Reply) :
    (s.respond p r).mpAcknowledged = s.mpAcknowledged := rfl

@[simp] theorem State.respond_pending (s : State) (p : PortIx) (r : Reply) :
    (s.respond p r).pending = s.pending := rfl

/-! ### Slots after a write -/

theorem get_put {α : Type} {n : Nat} (v : Vector α n) (i j : Fin n) (x : α) :
    (put v i x).get j = if j = i then x else v.get j := by
  simp only [put, Vector.get_eq_getElem, Vector.getElem_set, Fin.ext_iff, eq_comm]

@[simp] theorem get_put_self {α : Type} {n : Nat} (v : Vector α n) (i : Fin n) (x : α) :
    (put v i x).get i = x := by simp [get_put]

theorem get_put_ne {α : Type} {n : Nat} (v : Vector α n) {i j : Fin n} (x : α) (h : j ≠ i) :
    (put v i x).get j = v.get j := by simp [get_put, h]

@[simp] theorem put_put {α : Type} {n : Nat} (v : Vector α n) (i : Fin n) (x y : α) :
    put (put v i x) i y = put v i y := by
  apply Vector.ext; intro k hk; simp only [put, Vector.getElem_set]; split <;> rfl

theorem State.entry_setEntry (s : State) (i j : DirSlot) (e : Option Entry) :
    (s.setEntry i e).entry j = if j = i then e else s.entry j := get_put _ _ _ _

theorem State.lease_setLease (s : State) (l k : LeaseSlot) (c : LeaseCell) :
    (s.setLease l c).lease k = if k = l then c else s.lease k := get_put _ _ _ _

theorem State.record_setRecord (s : State) (l k : LeaseSlot) (r : Option LeaseRecord) :
    (s.setRecord l r).record k = if k = l then r else s.record k := by
  simp only [State.record, State.setRecord, State.lease_setLease]; split <;> rfl

theorem State.sessionCell_setSessionCell (s : State) (i j : SessSlot) (c : SessionCell) :
    (s.setSessionCell i c).sessionCell j = if j = i then c else s.sessionCell j := get_put _ _ _ _

theorem State.session_setSession (s : State) (i j : SessSlot) (x : Option Session) :
    (s.setSession i x).session j = if j = i then x else s.session j := by
  simp only [State.session, State.setSession, State.sessionCell_setSessionCell]; split <;> rfl

theorem State.port_setPort (s : State) (p q : PortIx) (x : Port) :
    (s.setPort p x).port q = if q = p then x else s.port q := get_put _ _ _ _

@[simp] theorem State.entry_setEntry_self (s : State) (i : DirSlot) (e : Option Entry) :
    (s.setEntry i e).entry i = e := by simp [State.entry_setEntry]

@[simp] theorem State.record_setRecord_self (s : State) (l : LeaseSlot) (r : Option LeaseRecord) :
    (s.setRecord l r).record l = r := by simp [State.record_setRecord]

@[simp] theorem State.session_setSession_self (s : State) (i : SessSlot) (x : Option Session) :
    (s.setSession i x).session i = x := by simp [State.session_setSession]

@[simp] theorem State.port_setPort_self (s : State) (p : PortIx) (x : Port) :
    (s.setPort p x).port p = x := by simp [State.port_setPort]

/-! ### Reads of one table after a write of another -/

@[simp] theorem State.entry_setLease (s : State) (l : LeaseSlot) (c : LeaseCell) (i : DirSlot) :
    (s.setLease l c).entry i = s.entry i := rfl

@[simp] theorem State.entry_setRecord (s : State) (l : LeaseSlot) (r : Option LeaseRecord) (i : DirSlot) :
    (s.setRecord l r).entry i = s.entry i := rfl

@[simp] theorem State.entry_setSession (s : State) (j : SessSlot) (x : Option Session) (i : DirSlot) :
    (s.setSession j x).entry i = s.entry i := rfl

@[simp] theorem State.entry_setSessionCell (s : State) (j : SessSlot) (c : SessionCell) (i : DirSlot) :
    (s.setSessionCell j c).entry i = s.entry i := rfl

@[simp] theorem State.entry_setPort (s : State) (p : PortIx) (x : Port) (i : DirSlot) :
    (s.setPort p x).entry i = s.entry i := rfl

@[simp] theorem State.entry_respond (s : State) (p : PortIx) (r : Reply) (i : DirSlot) :
    (s.respond p r).entry i = s.entry i := rfl

@[simp] theorem State.lease_setEntry (s : State) (i : DirSlot) (e : Option Entry) (l : LeaseSlot) :
    (s.setEntry i e).lease l = s.lease l := rfl

@[simp] theorem State.lease_setSession (s : State) (j : SessSlot) (x : Option Session) (l : LeaseSlot) :
    (s.setSession j x).lease l = s.lease l := rfl

@[simp] theorem State.lease_setSessionCell (s : State) (j : SessSlot) (c : SessionCell) (l : LeaseSlot) :
    (s.setSessionCell j c).lease l = s.lease l := rfl

@[simp] theorem State.lease_setPort (s : State) (p : PortIx) (x : Port) (l : LeaseSlot) :
    (s.setPort p x).lease l = s.lease l := rfl

@[simp] theorem State.lease_respond (s : State) (p : PortIx) (r : Reply) (l : LeaseSlot) :
    (s.respond p r).lease l = s.lease l := rfl

@[simp] theorem State.record_setEntry (s : State) (i : DirSlot) (e : Option Entry) (l : LeaseSlot) :
    (s.setEntry i e).record l = s.record l := rfl

@[simp] theorem State.record_setSession (s : State) (j : SessSlot) (x : Option Session) (l : LeaseSlot) :
    (s.setSession j x).record l = s.record l := rfl

@[simp] theorem State.record_setSessionCell (s : State) (j : SessSlot) (c : SessionCell) (l : LeaseSlot) :
    (s.setSessionCell j c).record l = s.record l := rfl

@[simp] theorem State.record_setPort (s : State) (p : PortIx) (x : Port) (l : LeaseSlot) :
    (s.setPort p x).record l = s.record l := rfl

@[simp] theorem State.record_respond (s : State) (p : PortIx) (r : Reply) (l : LeaseSlot) :
    (s.respond p r).record l = s.record l := rfl

@[simp] theorem State.sessionCell_setEntry (s : State) (i : DirSlot) (e : Option Entry) (j : SessSlot) :
    (s.setEntry i e).sessionCell j = s.sessionCell j := rfl

@[simp] theorem State.sessionCell_setLease (s : State) (l : LeaseSlot) (c : LeaseCell) (j : SessSlot) :
    (s.setLease l c).sessionCell j = s.sessionCell j := rfl

@[simp] theorem State.sessionCell_setRecord (s : State) (l : LeaseSlot) (r : Option LeaseRecord)
    (j : SessSlot) : (s.setRecord l r).sessionCell j = s.sessionCell j := rfl

@[simp] theorem State.sessionCell_respond (s : State) (p : PortIx) (r : Reply) (j : SessSlot) :
    (s.respond p r).sessionCell j = s.sessionCell j := rfl

@[simp] theorem State.session_setEntry (s : State) (i : DirSlot) (e : Option Entry) (j : SessSlot) :
    (s.setEntry i e).session j = s.session j := rfl

@[simp] theorem State.session_setLease (s : State) (l : LeaseSlot) (c : LeaseCell) (j : SessSlot) :
    (s.setLease l c).session j = s.session j := rfl

@[simp] theorem State.session_setRecord (s : State) (l : LeaseSlot) (r : Option LeaseRecord)
    (j : SessSlot) : (s.setRecord l r).session j = s.session j := rfl

@[simp] theorem State.session_respond (s : State) (p : PortIx) (r : Reply) (j : SessSlot) :
    (s.respond p r).session j = s.session j := rfl

@[simp] theorem State.port_setEntry (s : State) (i : DirSlot) (e : Option Entry) (p : PortIx) :
    (s.setEntry i e).port p = s.port p := rfl

@[simp] theorem State.port_setRecord (s : State) (l : LeaseSlot) (r : Option LeaseRecord) (p : PortIx) :
    (s.setRecord l r).port p = s.port p := rfl

@[simp] theorem State.port_setSession (s : State) (i : SessSlot) (x : Option Session) (p : PortIx) :
    (s.setSession i x).port p = s.port p := rfl

end Sys2Proof.Machine
end

