-- ==== Sys2Proof/Laws/Tables.lean ====
section
/-! SUPPORT. What the shared operations over the tables leave alone: the clock, the profiles, the lines,
the thresholds, the ports, the arbiter and the queue of events; which slots stay defined; and which of
them reach the sessions, the fence queue and the bus. -/

namespace Sys2Proof.Machine

/-- The parts of the state that no operation over the tables reaches. -/
def State.rest (s : State) : Clock × Vector (Option Profile) 8 × Vector LineConfig 16 ×
    Vector Priority 5 × Vector Port 5 × PortIx × Bool × Bool × Bool × Nat ×
    List Instr :=
  (s.clock, s.profiles, s.lines, s.thresholds, s.ports, s.lastServed, s.addressStrap, s.started,
    s.resetLow, s.mpAcknowledged, s.pending)

/-- The fields of `rest`, one by one. -/
theorem State.rest_eq_iff (s t : State) : t.rest = s.rest ↔
    t.clock = s.clock ∧ t.profiles = s.profiles ∧ t.lines = s.lines ∧ t.thresholds = s.thresholds ∧
    t.ports = s.ports ∧ t.lastServed = s.lastServed ∧ t.addressStrap = s.addressStrap ∧
    t.started = s.started ∧ t.resetLow = s.resetLow ∧ t.mpAcknowledged = s.mpAcknowledged ∧
    t.pending = s.pending := by
  simp only [State.rest, Prod.mk.injEq]

/-- The tables that the grant check reaches apart from directory, leases and alerts: none of these. -/
def State.beside (s : State) : Vector SessionCell 16 × List FenceJob × Bus :=
  (s.sessions, s.fenceQueue, s.bus)

/-! ### Single writes -/

@[simp] theorem State.rest_setEntry (s : State) (i : DirSlot) (e : Option Entry) :
    (s.setEntry i e).rest = s.rest := rfl

@[simp] theorem State.rest_setLease (s : State) (l : LeaseSlot) (c : LeaseCell) :
    (s.setLease l c).rest = s.rest := rfl

@[simp] theorem State.rest_setRecord (s : State) (l : LeaseSlot) (r : Option LeaseRecord) :
    (s.setRecord l r).rest = s.rest := rfl

@[simp] theorem State.rest_setSessionCell (s : State) (i : SessSlot) (c : SessionCell) :
    (s.setSessionCell i c).rest = s.rest := rfl

@[simp] theorem State.rest_setSession (s : State) (i : SessSlot) (x : Option Session) :
    (s.setSession i x).rest = s.rest := rfl

@[simp] theorem State.rest_raiseFenceFailed (s : State) (i : DirSlot) :
    (s.raiseFenceFailed i).rest = s.rest := rfl

@[simp] theorem State.rest_raiseSpent (s : State) (i : DirSlot) : (s.raiseSpent i).rest = s.rest := rfl

@[simp] theorem State.rest_raiseLapsed (s : State) (i : SessSlot) (a : LapseAlert) :
    (s.raiseLapsed i a).rest = s.rest := rfl

@[simp] theorem State.rest_modifyEntry (s : State) (i : DirSlot) (f : Entry → Entry) :
    (s.modifyEntry i f).rest = s.rest := by
  unfold State.modifyEntry; split <;> rfl

@[simp] theorem State.rest_modifySession (s : State) (i : SessSlot) (f : Session → Session) :
    (s.modifySession i f).rest = s.rest := by
  unfold State.modifySession; split <;> rfl

@[simp] theorem State.rest_endRecord (s : State) (l : LeaseSlot) (c : EndCause) :
    (s.endRecord l c).rest = s.rest := by
  unfold State.endRecord; split <;> rfl

@[simp] theorem State.rest_reportSpent (s : State) (i : DirSlot) : (s.reportSpent i).rest = s.rest := by
  unfold State.reportSpent; split
  · rfl
  · split <;> rfl

@[simp] theorem State.beside_endRecord (s : State) (l : LeaseSlot) (c : EndCause) :
    (s.endRecord l c).beside = s.beside := by
  unfold State.endRecord; split <;> rfl

@[simp] theorem State.beside_reportSpent (s : State) (i : DirSlot) :
    (s.reportSpent i).beside = s.beside := by
  unfold State.reportSpent; split
  · rfl
  · split <;> rfl

@[simp] theorem State.beside_modifyEntry (s : State) (i : DirSlot) (f : Entry → Entry) :
    (s.modifyEntry i f).beside = s.beside := by
  unfold State.modifyEntry; split <;> rfl

/-! ### The grant check -/

theorem grantSteps_rest (i : DirSlot) (q : List LeaseSlot) (s : State) :
    (grantSteps i q s).rest = s.rest := by
  induction q generalizing s with
  | nil => rfl
  | cons l rest ih =>
    rw [grantSteps]
    split
    · rfl
    · split
      · split
        · rw [ih]; rfl
        · split
          · rw [ih]; rfl
          · split
            · rw [ih]; simp [State.endSpentHead]
            · split <;> rfl
      · rfl

theorem grantSteps_beside (i : DirSlot) (q : List LeaseSlot) (s : State) :
    (grantSteps i q s).beside = s.beside := by
  induction q generalizing s with
  | nil => rfl
  | cons l rest ih =>
    rw [grantSteps]
    split
    · rfl
    · split
      · split
        · rw [ih]; rfl
        · split
          · rw [ih]; rfl
          · split
            · rw [ih]; simp only [State.endSpentHead, State.beside_reportSpent, State.beside_endRecord]; rfl
            · split <;> rfl
      · rfl

@[simp] theorem State.rest_grantCheck (s : State) (i : DirSlot) : (s.grantCheck i).rest = s.rest := by
  unfold State.grantCheck; split
  · rfl
  · exact grantSteps_rest _ _ _

@[simp] theorem State.beside_grantCheck (s : State) (i : DirSlot) :
    (s.grantCheck i).beside = s.beside := by
  unfold State.grantCheck; split
  · rfl
  · exact grantSteps_beside _ _ _

theorem State.grantCheck_sessions (s : State) (i : DirSlot) : (s.grantCheck i).sessions = s.sessions :=
  congrArg (·.1) (s.beside_grantCheck i)

theorem State.grantCheck_fenceQueue (s : State) (i : DirSlot) :
    (s.grantCheck i).fenceQueue = s.fenceQueue := congrArg (·.2.1) (s.beside_grantCheck i)

theorem State.grantCheck_bus (s : State) (i : DirSlot) : (s.grantCheck i).bus = s.bus :=
  congrArg (·.2.2) (s.beside_grantCheck i)

/-! ### Leaving an entry -/

@[simp] theorem State.rest_dropHolder (s : State) (i : DirSlot) (l : LeaseSlot) :
    (s.dropHolder i l).rest = s.rest := by
  unfold State.dropHolder; split
  · rfl
  · split
    · rw [State.rest_grantCheck, State.rest_setEntry]
    · rfl

@[simp] theorem State.rest_leaveQueue (s : State) (i : DirSlot) (l : LeaseSlot) :
    (s.leaveQueue i l).rest = s.rest := by
  rw [State.leaveQueue, State.rest_grantCheck, State.rest_modifyEntry]

@[simp] theorem State.rest_vacateRecord (s : State) (l : LeaseSlot) :
    (s.vacateRecord l).rest = s.rest := by
  unfold State.vacateRecord; split
  · rfl
  · rw [State.rest_setRecord, State.rest_modifySession]

@[simp] theorem State.rest_freeRecord (s : State) (l : LeaseSlot) : (s.freeRecord l).rest = s.rest := by
  unfold State.freeRecord; split
  · rfl
  · split <;> simp

@[simp] theorem State.beside_dropHolder (s : State) (i : DirSlot) (l : LeaseSlot) :
    (s.dropHolder i l).beside = s.beside := by
  unfold State.dropHolder; split
  · rfl
  · split
    · rw [State.beside_grantCheck]; rfl
    · rfl

@[simp] theorem State.beside_leaveQueue (s : State) (i : DirSlot) (l : LeaseSlot) :
    (s.leaveQueue i l).beside = s.beside := by
  rw [State.leaveQueue, State.beside_grantCheck, State.beside_modifyEntry]

/-! ### Fence jobs and attempts -/

@[simp] theorem State.rest_failHead (s : State) : s.failHead.rest = s.rest := by
  unfold State.failHead; split
  · rfl
  · split
    · rfl
    · rw [State.rest_raiseFenceFailed, State.rest_modifyEntry]; rfl

@[simp] theorem State.rest_startAttempt (s : State) (lines : BusLines) :
    (s.startAttempt lines).rest = s.rest := by
  unfold State.startAttempt; split
  · split
    · dsimp only; split
      · rfl
      · rw [State.rest_failHead]; rfl
    · rfl
  · rfl

@[simp] theorem State.rest_appendJob (s : State) (j : FenceJob) (lines : BusLines) :
    (s.appendJob j lines).rest = s.rest := by
  rw [State.appendJob, State.rest_startAttempt]; rfl

@[simp] theorem State.failHead_leases (s : State) : s.failHead.leases = s.leases := by
  unfold State.failHead; split
  · rfl
  · split
    · rfl
    · rw [State.raiseFenceFailed_leases]; unfold State.modifyEntry; split <;> rfl

@[simp] theorem State.failHead_sessions (s : State) : s.failHead.sessions = s.sessions := by
  unfold State.failHead; split
  · rfl
  · split
    · rfl
    · rw [State.raiseFenceFailed_sessions]; unfold State.modifyEntry; split <;> rfl

@[simp] theorem State.failHead_bus (s : State) : s.failHead.bus = s.bus := by
  unfold State.failHead; split
  · rfl
  · split
    · rfl
    · rw [State.raiseFenceFailed_bus]; unfold State.modifyEntry; split <;> rfl

@[simp] theorem State.startAttempt_leases (s : State) (lines : BusLines) :
    (s.startAttempt lines).leases = s.leases := by
  unfold State.startAttempt; split
  · split
    · dsimp only; split
      · rfl
      · rw [State.failHead_leases]
    · rfl
  · rfl

@[simp] theorem State.startAttempt_sessions (s : State) (lines : BusLines) :
    (s.startAttempt lines).sessions = s.sessions := by
  unfold State.startAttempt; split
  · split
    · dsimp only; split
      · rfl
      · rw [State.failHead_sessions]
    · rfl
  · rfl

@[simp] theorem State.rest_revokeExclusive (s : State) (i : DirSlot) (lines : BusLines) :
    (s.revokeExclusive i lines).rest = s.rest := by
  unfold State.revokeExclusive; split
  · rfl
  · dsimp only; split <;> simp

@[simp] theorem State.rest_revokeAt (s : State) (r : LeaseRecord) (l : LeaseSlot) (lines : BusLines) :
    (s.revokeAt r l lines).rest = s.rest := by
  unfold State.revokeAt; split <;> simp

@[simp] theorem State.rest_revokeEnding (s : State) (l : LeaseSlot) (c : EndCause) (lines : BusLines) :
    (s.revokeEnding l c lines).rest = s.rest := by
  unfold State.revokeEnding; split <;> simp

/-! ### Walks -/

/-- A walk whose every step keeps a view of the state keeps it. -/
theorem foldl_keeps {α β : Type} (view : State → β) (f : State → α → State)
    (h : ∀ s a, view (f s a) = view s) (l : List α) (s : State) : view (l.foldl f s) = view s := by
  induction l generalizing s with
  | nil => rfl
  | cons a l ih => rw [List.foldl_cons, ih, h]

@[simp] theorem State.rest_teardownRecord (s : State) (l : LeaseSlot) (lines : BusLines) :
    (State.teardownRecord lines s l).rest = s.rest := by
  unfold State.teardownRecord; split
  · rfl
  · split <;> simp

@[simp] theorem State.rest_teardown (s : State) (records : List LeaseSlot) (lines : BusLines) :
    (s.teardown records lines).rest = s.rest :=
  foldl_keeps State.rest _ (fun s a => s.rest_teardownRecord a lines) _ _

@[simp] theorem State.rest_releaseAll (s : State) (records : List LeaseSlot) :
    (s.releaseAll records).rest = s.rest :=
  foldl_keeps State.rest _ (fun s a => s.rest_freeRecord a) _ _

@[simp] theorem State.rest_dropSessionMarks (s : State) (i : SessSlot) :
    (s.dropSessionMarks i).rest = s.rest := s.rest_modifySession i _

@[simp] theorem State.rest_lapse (s : State) (i : SessSlot) (x : Session) (c : LapseCause)
    (lines : BusLines) : (s.lapse i x c lines).rest = s.rest := by simp [State.lapse]

@[simp] theorem State.rest_allocate (s : State) (l : LeaseSlot) (r : LeaseRecord) :
    (s.allocate l r).rest = s.rest := by simp [State.allocate]

@[simp] theorem State.rest_retireRecord (s : State) (l : LeaseSlot) :
    (s.retireRecord l).rest = s.rest := by
  unfold State.retireRecord; split
  · rfl
  · split <;> simp

@[simp] theorem State.rest_retireSession (s : State) (i : SessSlot) :
    (s.retireSession i).rest = s.rest := by
  unfold State.retireSession; split
  · rfl
  · split <;> simp

@[simp] theorem State.rest_retire (s : State) (i : SessSlot) (n : Selected) :
    (s.retire i n).rest = s.rest := by
  unfold State.retire; split <;> simp

@[simp] theorem State.rest_settleHead (s : State) : s.settleHead.rest = s.rest := by
  unfold State.settleHead; split
  · rfl
  · dsimp only; split
    · rfl
    · split
      · rw [State.rest_grantCheck]; rfl
      · rfl

@[simp] theorem State.rest_failIdle (s : State) (driven : List BusItem) (lines : BusLines) :
    (s.failIdle driven lines).rest = s.rest := by
  rw [State.failIdle, State.rest_startAttempt, State.rest_failHead]; rfl

/-! ### Slots that stay defined -/

/-- Which directory slots are defined. -/
def State.definedSlots (s : State) : DirSlot → Bool := fun i => (s.entry i).isSome

theorem State.definedSlots_setEntry (s : State) (i : DirSlot) (e : Entry)
    (h : (s.entry i).isSome = true) : (s.setEntry i (some e)).definedSlots = s.definedSlots := by
  funext j; simp only [State.definedSlots, State.entry_setEntry]; split
  · subst_vars; simp [h]
  · rfl

@[simp] theorem State.definedSlots_modifyEntry (s : State) (i : DirSlot) (f : Entry → Entry) :
    (s.modifyEntry i f).definedSlots = s.definedSlots := by
  unfold State.modifyEntry; split
  · rfl
  · exact s.definedSlots_setEntry i _ (by simp [*])

@[simp] theorem State.definedSlots_endRecord (s : State) (l : LeaseSlot) (c : EndCause) :
    (s.endRecord l c).definedSlots = s.definedSlots := by
  unfold State.endRecord; split <;> rfl

@[simp] theorem State.definedSlots_reportSpent (s : State) (i : DirSlot) :
    (s.reportSpent i).definedSlots = s.definedSlots := by
  unfold State.reportSpent; split
  · rfl
  · split
    · rfl
    · exact s.definedSlots_setEntry i _ (by simp [*])

theorem grantSteps_definedSlots (i : DirSlot) (q : List LeaseSlot) (s : State) :
    (grantSteps i q s).definedSlots = s.definedSlots := by
  induction q generalizing s with
  | nil => rfl
  | cons l rest ih =>
    rw [grantSteps]
    split
    · rfl
    · rename_i e he
      have hs : (s.entry i).isSome = true := by simp [he]
      split
      · split
        · rw [ih, s.definedSlots_setEntry i _ hs]
        · split
          · rw [ih]; exact s.definedSlots_setEntry i _ hs
          · split
            · rw [ih]; simp [State.endSpentHead, s.definedSlots_setEntry i _ hs]
            · split
              · exact s.definedSlots_setEntry i _ hs
              · rfl
      · rfl

@[simp] theorem State.definedSlots_grantCheck (s : State) (i : DirSlot) :
    (s.grantCheck i).definedSlots = s.definedSlots := by
  unfold State.grantCheck; split
  · rfl
  · exact grantSteps_definedSlots _ _ _

@[simp] theorem State.definedSlots_dropHolder (s : State) (i : DirSlot) (l : LeaseSlot) :
    (s.dropHolder i l).definedSlots = s.definedSlots := by
  unfold State.dropHolder; split
  · rfl
  · rename_i e he
    have hs : (s.entry i).isSome = true := by simp [he]
    split <;> simp [s.definedSlots_setEntry i _ hs]

@[simp] theorem State.definedSlots_failHead (s : State) : s.failHead.definedSlots = s.definedSlots := by
  unfold State.failHead; split
  · rfl
  · split
    · rfl
    · exact ({ s with fenceQueue := _ } : State).definedSlots_modifyEntry _ _

@[simp] theorem State.definedSlots_startAttempt (s : State) (lines : BusLines) :
    (s.startAttempt lines).definedSlots = s.definedSlots := by
  unfold State.startAttempt; split
  · split
    · dsimp only; split
      · rfl
      · rw [State.definedSlots_failHead]; rfl
    · rfl
  · rfl

@[simp] theorem State.definedSlots_appendJob (s : State) (j : FenceJob) (lines : BusLines) :
    (s.appendJob j lines).definedSlots = s.definedSlots := by
  rw [State.appendJob, State.definedSlots_startAttempt]; rfl

@[simp] theorem State.definedSlots_revokeExclusive (s : State) (i : DirSlot) (lines : BusLines) :
    (s.revokeExclusive i lines).definedSlots = s.definedSlots := by
  unfold State.revokeExclusive; split
  · rfl
  · rename_i e he
    have hs : (s.entry i).isSome = true := by simp [he]
    dsimp only; split <;> simp [s.definedSlots_setEntry i _ hs]

@[simp] theorem State.definedSlots_revokeEnding (s : State) (l : LeaseSlot) (c : EndCause)
    (lines : BusLines) : (s.revokeEnding l c lines).definedSlots = s.definedSlots := by
  unfold State.revokeEnding; split
  · rfl
  · unfold State.revokeAt; split <;> simp

/-! ### The tick -/

/-- No REFCLK period passes while a reached mark has not been taken (R73, R75; log 3). -/
theorem execTick_due {s : State} (h : s.markDue = true) (periods : Nat) : execTick periods s = .next s := by
  unfold execTick
  split
  · rfl
  · rw [if_pos h]

/-- With no mark due the tick moves the clock alone, by periods or by one count (R66). -/
theorem execTick_running {s : State} (hr : s.clock.state = .running) (h : s.markDue = false)
    (periods : Nat) :
    execTick periods s = .next { s with clock :=
      if s.clock.periods + periods < s.clock.periodsPerTick then
        { s.clock with periods := s.clock.periods + periods }
      else { s.clock with count := s.clock.count + 1, periods := 0 } } := by
  simp only [execTick, hr, h, Bool.false_eq_true, if_false]
  split <;> rfl

end Sys2Proof.Machine
end

