-- ==== Sys2Proof/Laws/Arbiter.lean ====
section
/-! SUPPORT. What the arbiter's take does, by the frame it finds, and what the searches and the handle
checks of the commands answer. -/

namespace Sys2Proof.Machine

/-! ### Searches -/

theorem ranged_some {n : Nat} {b : Byte} {i : Fin n} (h : b.toNat = i.val) : ranged n b = some i := by
  unfold ranged; rw [dif_pos (by omega)]; congr 1; exact Fin.ext h

theorem ranged_none {n : Nat} {b : Byte} (h : n ≤ b.toNat) : ranged n b = none := by
  unfold ranged; rw [dif_neg (by omega)]

theorem ranged_eq_some_iff {n : Nat} {b : Byte} {i : Fin n} : ranged n b = some i ↔ b.toNat = i.val := by
  refine ⟨fun h => ?_, ranged_some⟩
  unfold ranged at h; split at h
  · rw [← Option.some.inj h]
  · exact absurd h (by simp)

theorem ranged_eq_none_iff {n : Nat} {b : Byte} : ranged n b = none ↔ n ≤ b.toNat := by
  unfold ranged; split <;> simp <;> omega

theorem lowest_some_iff {n : Nat} {f : Fin n → Bool} {i : Fin n} :
    lowest n f = some i ↔ isLowest (fun j => f j = true) i := by
  unfold lowest isLowest
  rw [List.find?_eq_some_iff_getElem]
  constructor
  · rintro ⟨hf, k, hk, he, hlt⟩
    refine ⟨hf, fun j hj => ?_⟩
    simp only [List.getElem_finRange, List.length_finRange] at he hk
    subst he
    by_contra hc
    have hjk : j.val < k := by simpa [Fin.le_def] using hc
    have := hlt j.val hjk
    simp only [List.getElem_finRange] at this
    rw [show (Fin.cast (List.length_finRange) ⟨j.val, _⟩ : Fin n) = j from Fin.ext rfl] at this
    simp [hj] at this
  · rintro ⟨hf, hmin⟩
    refine ⟨hf, i.val, by simp, by simp, fun j hj => ?_⟩
    simp only [List.getElem_finRange]
    by_contra hc
    have hfj : f (Fin.cast (List.length_finRange) ⟨j, by simp; omega⟩) = true := by simpa using hc
    have := hmin _ hfj
    simp [Fin.le_def] at this
    omega

theorem lowest_none_iff {n : Nat} {f : Fin n → Bool} : lowest n f = none ↔ ∀ i, f i = false := by
  simp [lowest, List.find?_eq_none]

/-! ### The take (R168, R169) -/

theorem State.respond_eq_answer (s : State) (p : PortIx) (code : Byte) (st : Status)
    (fields : List Byte) :
    s.respond p { code := code, status := st, fields := fields } = s.answer p code st fields := rfl

/-- The take of a frame of the row: the body runs, and its answer stands in the port. -/
theorem State.take_own {s : State} {p : PortIx} {f : Frame} {row : Frame → Bool}
    (h : s.nextTake = some (p, f)) (hr : row f = true)
    (body : PortIx → List Byte → State → Answer) :
    s.take row body = (body p f.args s).state.answer p f.code (body p f.args s).status
      (body p f.args s).fields := by
  unfold State.take; rw [h]; simp only [hr, if_true]; rfl

/-- No take: no port is PENDING, or the next frame is of another row. -/
theorem State.take_other {s : State} {row : Frame → Bool}
    (h : ∀ p f, s.nextTake = some (p, f) → row f = false)
    (body : PortIx → List Byte → State → Answer) : s.take row body = s := by
  unfold State.take; split
  · rfl
  · rename_i p f hn; simp [h p f hn]

theorem checked_denied {p : PortIx} (h : p ≠ 4) (len : Nat)
    (body : PortIx → List Byte → State → Answer) (args : List Byte) (s : State) :
    checked true len body p args s = s.refuse .denied := by
  unfold checked; rw [if_pos ⟨rfl, h⟩]

theorem checked_badArg {management : Bool} {p : PortIx} (h : ¬ (management = true ∧ p ≠ 4)) {len : Nat}
    {args : List Byte} (hl : args.length ≠ len) (body : PortIx → List Byte → State → Answer)
    (s : State) : checked management len body p args s = s.refuse .badArg := by
  unfold checked; rw [if_neg h, if_pos hl]

theorem checked_body {management : Bool} {p : PortIx} (h : ¬ (management = true ∧ p ≠ 4)) {len : Nat}
    {args : List Byte} (hl : args.length = len) (body : PortIx → List Byte → State → Answer)
    (s : State) : checked management len body p args s = body p args s := by
  unfold checked; rw [if_neg h, if_neg (by simpa using hl)]

/-- A command whose frame is next, with the right length: its body runs. -/
theorem State.command_own {s : State} {p : PortIx} {code : Byte} {args : List Byte} {len : Nat}
    (h : s.nextTake = some (p, ⟨code, args⟩)) (hl : args.length = len)
    (body : PortIx → List Byte → State → Answer) :
    s.command code len body = (body p args s).state.answer p code (body p args s).status
      (body p args s).fields := by
  unfold State.command
  rw [State.take_own h (by simp)]
  simp only [checked_body (management := false) (by simp) hl]

/-- A management command whose frame is next at the management port, with the right length. -/
theorem State.management_own {s : State} {code : Byte} {args : List Byte} {len : Nat}
    (h : s.nextTake = some (4, ⟨code, args⟩)) (hl : args.length = len)
    (body : PortIx → List Byte → State → Answer) :
    s.management code len body = (body 4 args s).state.answer 4 code (body 4 args s).status
      (body 4 args s).fields := by
  unfold State.management
  rw [State.take_own h (by simp)]
  simp only [checked_body (management := true) (p := 4) (by simp) hl]

/-- A management command from an agent port is DENIED. -/
theorem State.management_denied {s : State} {p : PortIx} {code : Byte} {args : List Byte} {len : Nat}
    (h : s.nextTake = some (p, ⟨code, args⟩)) (hp : p ≠ 4)
    (body : PortIx → List Byte → State → Answer) :
    s.management code len body = s.answer p code .denied [] := by
  unfold State.management
  rw [State.take_own h (by simp)]
  simp only [checked_denied hp, State.refuse]

/-! ### Handles (R37) -/

/-- Steps 2 to 4 of R37 answer their first failure. -/
theorem State.checkSession_error {s : State} {p : PortIx} {code : Byte} {i : SessSlot} {tag : Half}
    {e : Status} (h : s.sessionRefusal p code i tag = some e) :
    s.checkSession p (lapsedPasses code) i tag = .error e := by
  unfold State.sessionRefusal at h; unfold State.checkSession
  cases hx : s.session i <;> simp only [hx] at h ⊢
  · cases h; rfl
  · split at h
    · cases h; simp [*]
    · split at h
      · cases h; simp [*]
      · split at h
        · cases h; simp [*]
        · cases h

/-- Steps 2 to 4 of R37 passed: the slot holds a session, and that is the answer. -/
theorem State.checkSession_pass {s : State} {p : PortIx} {code : Byte} {i : SessSlot} {tag : Half}
    (h : s.sessionRefusal p code i tag = none) :
    ∃ x, s.session i = some x ∧ s.checkSession p (lapsedPasses code) i tag = .ok x := by
  unfold State.sessionRefusal at h; unfold State.checkSession
  cases hx : s.session i <;> simp only [hx] at h ⊢
  · cases h
  · refine ⟨_, rfl, ?_⟩
    split at h
    · cases h
    · split at h
      · cases h
      · split at h
        · cases h
        · simp [*]

/-- Steps 5 and 6 of R37 answer their first failure. -/
theorem State.checkLease_error {s : State} {i : SessSlot} {l : LeaseSlot} {issue : Half} {e : Status}
    (h : s.leaseRefusal i l issue = some e) : s.checkLease i l issue = .error e := by
  unfold State.leaseRefusal at h; unfold State.checkLease
  cases hx : s.record l <;> simp only [hx] at h ⊢
  · cases h; rfl
  · split at h
    · cases h; simp [*]
    · split at h
      · cases h; simp [*]
      · cases h

/-- The session handle of a live session passes R37. -/
theorem State.checkHandle_ok {s : State} {p : PortIx} {args : List Byte} {i : SessSlot} {x : Session}
    {lapsedToo : Bool} (h : s.namesSession p args i x) (hl : x.alive ∨ lapsedToo = true) :
    s.checkHandle p lapsedToo (argSession args) = .ok (i, x) := by
  obtain ⟨h0, hx, ht, hp⟩ := h
  have hn : ¬ (x.state = .lapsed ∧ lapsedToo = false) := by
    rintro ⟨h1, h2⟩; rcases hl with h | h
    · exact h h1
    · simp [h] at h2
  simp [State.checkHandle, argSession, ranged_some h0, State.checkSession, hx, ht, hp, hn]

/-- The handles of a live session and of a record of its own pass R37. -/
theorem State.checkHandles_ok {s : State} {p : PortIx} {args : List Byte} {i : SessSlot} {x : Session}
    {k : Nat} {l : LeaseSlot} {r : LeaseRecord} {lapsedToo : Bool}
    (h : s.namesSession p args i x) (hl : x.alive ∨ lapsedToo = true) (hr : s.namesLease args k i l r) :
    s.checkHandles p lapsedToo (argSession args) (argLease args k) = .ok (i, x, l, r) := by
  obtain ⟨h0, hx, ht, hp⟩ := h
  obtain ⟨k0, kr, ki, ks⟩ := hr
  have hn : ¬ (x.state = .lapsed ∧ lapsedToo = false) := by
    rintro ⟨h1, h2⟩; rcases hl with h | h
    · exact h h1
    · simp [h] at h2
  simp [State.checkHandles, argSession, argLease, ranged_some h0, ranged_some k0, State.checkSession,
    State.checkLease, hx, ht, hp, hn, kr, ki, ks]

/-! ### Keys (R1) -/

theorem State.findKey_some {s : State} {key : Word} {i : DirSlot} {e : Entry}
    (h : s.findKey key = some (i, e)) : s.entry i = some e ∧ e.key = key := by
  unfold State.findKey at h
  obtain ⟨j, -, hj⟩ := List.exists_of_findSome?_eq_some h
  split at hj
  · split at hj
    · cases hj; exact ⟨‹_›, ‹_›⟩
    · cases hj
  · cases hj

end Sys2Proof.Machine
end

