-- ==== Sys2Proof/WellFormed.lean ====
section
/-! DEFINITION. Which commands and events are possible ones, by their operands alone. -/

namespace Sys2Proof

/-- A byte left incomplete holds 0 to 7 bits (R162). -/
def looseOk (loose : Nat) : Bool := loose < 8

/-- The operands that the manual rules out whatever the state: an incomplete byte of 8 bits or more, a
management read of no byte (the status byte is always sent, R167), no REFCLK period or more than the
1024 of the longest tick (R66), a place beyond the longest sequence of R128 and R129, whose last written
byte stands at place 8 and whose STOP at place 10, more than nine recovery pulses, or an end of recovery
with ESDA low before the ninth (R132). -/
def Instr.wellFormed : Instr → Bool
  | .commandTransaction _ .fall => true
  | .commandTransaction _ (.rise _ loose) => looseOk loose
  | .readTransaction _ _ => true
  | .mpWrite _ _ loose => looseOk loose
  | .mpRead _ count _ => 1 ≤ count
  | .resetPort _ => true
  | .unknownCommand => true
  | .openSession => true
  | .keepalive => true
  | .closeSession => true
  | .acquire => true
  | .release => true
  | .renew => true
  | .queryLease => true
  | .queryResource => true
  | .readClock => true
  | .fetchNotice => true
  | .ackNotice => true
  | .defineResource => true
  | .amendResource => true
  | .deleteResource => true
  | .forceRevoke _ => true
  | .clearFenceAccept => true
  | .clearFenceRetry _ => true
  | .clockStart => true
  | .clockStop => true
  | .setClock => true
  | .purgeSession _ => true
  | .setProfile => true
  | .setBus => true
  | .setLine => true
  | .setThreshold => true
  | .readAlerts => true
  | .ackAlert => true
  | .warmReset _ => true
  | .tick periods => 1 ≤ periods && periods ≤ 1024
  | .warnMarkReached _ => true
  | .holdExpiry _ _ => true
  | .waitExpiry _ => true
  | .sessionWarning _ => true
  | .sessionLapse _ _ => true
  | .attemptSuccess _ => true
  | .attemptNack at_ _ => 1 ≤ at_ && at_ ≤ 8
  | .readBackMismatch _ _ => true
  | .stall at_ => 1 ≤ at_ && at_ ≤ 10
  | .recoveryEnd pulses freed _ => pulses ≤ 9 && (freed || pulses == 9)
  | .recoveryTimeout pulses _ => pulses ≤ 9
  | .abandonedAttemptEnd at_ _ => at_ ≤ 10
  | .coldReset _ => true
  | .startupComplete => true
  | .resetPortBadArg => true

end Sys2Proof
end

