-- ==== Sys2Proof/Laws/PerInstr.lean ====
section
/-! SUPPORT. What a well-formed command or event says of its operands, one lemma for each constructor. -/

set_option Elab.async false

namespace Sys2Proof.Laws

theorem looseOk_iff (loose : Nat) : looseOk loose = true ↔ loose ≤ 7 :=
  decide_eq_true_iff.trans Nat.lt_succ_iff

theorem between (lo hi n : Nat) :
    (decide (lo ≤ n) && decide (n ≤ hi)) = true ↔ lo ≤ n ∧ n ≤ hi := by
  rw [Bool.and_eq_true, decide_eq_true_iff, decide_eq_true_iff]

end Sys2Proof.Laws

namespace Sys2Proof.Laws.OperandsInRange

/-- A command or event is well-formed exactly when its operands lie in the manual's ranges (R66, R132,
R128, R129, R162, R167). -/
def Statement (i : Instr) : Prop :=
  i.wellFormed = true ↔
    match i with
    | .commandTransaction _ (.rise _ loose) => loose ≤ 7
    | .mpWrite _ _ loose => loose ≤ 7
    | .mpRead _ count _ => 1 ≤ count
    | .tick periods => 1 ≤ periods ∧ periods ≤ 1024
    | .attemptNack at_ _ => 1 ≤ at_ ∧ at_ ≤ 8
    | .stall at_ => 1 ≤ at_ ∧ at_ ≤ 10
    | .abandonedAttemptEnd at_ _ => at_ ≤ 10
    | .recoveryEnd pulses freed _ => pulses ≤ 9 ∧ (freed = true ∨ pulses = 9)
    | .recoveryTimeout pulses _ => pulses ≤ 9
    | _ => True

theorem commandTransaction (port : AgentPort) (phase : CommandPhase) :
    Statement (.commandTransaction port phase) :=
  match phase with
  | .fall => iff_of_true rfl trivial
  | .rise _ loose => looseOk_iff loose

theorem readTransaction (port : AgentPort) (phase : ReadPhase) : Statement (.readTransaction port phase) :=
  iff_of_true rfl trivial

theorem mpWrite (addr : BitVec 7) (bytes : List Byte) (loose : Nat) :
    Statement (.mpWrite addr bytes loose) :=
  looseOk_iff loose

theorem mpRead (addr : BitVec 7) (count : Nat) (nackStop : Bool) :
    Statement (.mpRead addr count nackStop) :=
  decide_eq_true_iff

theorem resetPort (port : PortIx) : Statement (.resetPort port) :=
  iff_of_true rfl trivial

theorem unknownCommand : Statement .unknownCommand :=
  iff_of_true rfl trivial

theorem openSession : Statement .openSession :=
  iff_of_true rfl trivial

theorem keepalive : Statement .keepalive :=
  iff_of_true rfl trivial

theorem closeSession : Statement .closeSession :=
  iff_of_true rfl trivial

theorem acquire : Statement .acquire :=
  iff_of_true rfl trivial

theorem release : Statement .release :=
  iff_of_true rfl trivial

theorem renew : Statement .renew :=
  iff_of_true rfl trivial

theorem queryLease : Statement .queryLease :=
  iff_of_true rfl trivial

theorem queryResource : Statement .queryResource :=
  iff_of_true rfl trivial

theorem readClock : Statement .readClock :=
  iff_of_true rfl trivial

theorem fetchNotice : Statement .fetchNotice :=
  iff_of_true rfl trivial

theorem ackNotice : Statement .ackNotice :=
  iff_of_true rfl trivial

theorem defineResource : Statement .defineResource :=
  iff_of_true rfl trivial

theorem amendResource : Statement .amendResource :=
  iff_of_true rfl trivial

theorem deleteResource : Statement .deleteResource :=
  iff_of_true rfl trivial

theorem forceRevoke (lines : BusLines) :
    Statement (.forceRevoke lines) :=
  iff_of_true rfl trivial

theorem clearFenceAccept : Statement .clearFenceAccept :=
  iff_of_true rfl trivial

theorem clearFenceRetry (lines : BusLines) :
    Statement (.clearFenceRetry lines) :=
  iff_of_true rfl trivial

theorem clockStart : Statement .clockStart :=
  iff_of_true rfl trivial

theorem clockStop : Statement .clockStop :=
  iff_of_true rfl trivial

theorem setClock : Statement .setClock :=
  iff_of_true rfl trivial

theorem purgeSession (lines : BusLines) :
    Statement (.purgeSession lines) :=
  iff_of_true rfl trivial

theorem setProfile : Statement .setProfile :=
  iff_of_true rfl trivial

theorem setBus : Statement .setBus :=
  iff_of_true rfl trivial

theorem setLine : Statement .setLine :=
  iff_of_true rfl trivial

theorem setThreshold : Statement .setThreshold :=
  iff_of_true rfl trivial

theorem readAlerts : Statement .readAlerts :=
  iff_of_true rfl trivial

theorem ackAlert : Statement .ackAlert :=
  iff_of_true rfl trivial

theorem warmReset (lines : BusLines) :
    Statement (.warmReset lines) :=
  iff_of_true rfl trivial

theorem tick (periods : Nat) : Statement (.tick periods) :=
  between 1 1024 periods

theorem warnMarkReached (lease : LeaseSlot) : Statement (.warnMarkReached lease) :=
  iff_of_true rfl trivial

theorem holdExpiry (lease : LeaseSlot) (lines : BusLines) :
    Statement (.holdExpiry lease lines) :=
  iff_of_true rfl trivial

theorem waitExpiry (lease : LeaseSlot) : Statement (.waitExpiry lease) :=
  iff_of_true rfl trivial

theorem sessionWarning (session : SessSlot) : Statement (.sessionWarning session) :=
  iff_of_true rfl trivial

theorem sessionLapse (session : SessSlot) (lines : BusLines) :
    Statement (.sessionLapse session lines) :=
  iff_of_true rfl trivial

theorem attemptSuccess (phase : AttemptPhase) : Statement (.attemptSuccess phase) :=
  iff_of_true rfl trivial

theorem attemptNack (at_ : Nat) (lines : BusLines) : Statement (.attemptNack at_ lines) :=
  between 1 8 at_

theorem readBackMismatch (readBack : Byte) (lines : BusLines) :
    Statement (.readBackMismatch readBack lines) :=
  iff_of_true rfl trivial

theorem stall (at_ : Nat) : Statement (.stall at_) :=
  between 1 10 at_

theorem recoveryEnd (pulses : Nat) (freed : Bool) (lines : BusLines) :
    Statement (.recoveryEnd pulses freed lines) := by
  show (decide (pulses ≤ 9) && (freed || pulses == 9)) = true ↔ pulses ≤ 9 ∧ (freed = true ∨ pulses = 9)
  rw [Bool.and_eq_true, Bool.or_eq_true, decide_eq_true_iff, beq_iff_eq]

theorem recoveryTimeout (pulses : Nat) (lines : BusLines) :
    Statement (.recoveryTimeout pulses lines) :=
  decide_eq_true_iff

theorem abandonedAttemptEnd (at_ : Nat) (lines : BusLines) :
    Statement (.abandonedAttemptEnd at_ lines) :=
  decide_eq_true_iff

theorem coldReset (phase : ResetPhase) : Statement (.coldReset phase) :=
  iff_of_true rfl trivial

theorem startupComplete : Statement .startupComplete :=
  iff_of_true rfl trivial

theorem resetPortBadArg : Statement .resetPortBadArg :=
  iff_of_true rfl trivial

end Sys2Proof.Laws.OperandsInRange
end

