-- ==== Sys2Proof/Laws/Wire.lean ====
section
/-! SUPPORT. What the shared operations of the ports and of the enforcement bus can do: the transaction in
which a port stands, its end when it is not judged, and the places of an attempt's sequence. -/

namespace Sys2Proof.Machine

/-! ### Transactions at the ports -/

theorem put_get {α : Type} {n : Nat} (v : Vector α n) (i : Fin n) : put v i (v.get i) = v := by
  unfold put Vector.get
  ext k
  simp

theorem State.setPort_port (s : State) (p : PortIx) : s.setPort p (s.port p) = s := by
  unfold State.setPort State.port
  rw [put_get]

theorem State.transactionAt_eq {s : State} {p : PortIx} {u : Transaction} (h : s.transacts p u) :
    s.transactionAt p = u := by
  unfold State.transactionAt
  rcases h with h | ⟨h, rfl⟩ <;> rw [h] <;> rfl

theorem Port.heldReply_none {x : Port} (h : ∀ r, x.state ≠ .ready r) : x.heldReply = none := by
  unfold Port.heldReply
  split
  · exact absurd ‹_› (h _)
  · rfl

/-- A transaction that is not judged is over at its rise, and nothing else changes (R173). -/
theorem State.riseRead_unjudged {s : State} {p : PortIx} {u : Transaction} (h : s.transacts p u)
    (hu : u.judged = false) (clocked : Nat) :
    s.riseRead p clocked = s.setPort p { s.port p with transaction := none, sent := none } := by
  simp [State.riseRead, State.transactionAt_eq h, hu]

theorem State.riseCommand_unjudged {s : State} {p : PortIx} {u : Transaction} (h : s.transacts p u)
    (hu : u.judged = false) (hs : u.sending = none) (mosi : List Byte) (loose : Nat) :
    s.riseCommand p mosi loose = s.setPort p { s.port p with transaction := none, sent := none } := by
  unfold State.riseCommand
  simp only [State.transactionAt_eq h, State.riseRead_unjudged h hu, hs, hu]
  split
  · rfl
  · split <;> rfl

/-! ### The places of an attempt -/

@[simp] theorem Attempt.sequence_position (a : Attempt) (k : Nat) :
    ({ a with position := k } : Attempt).sequence = a.sequence := rfl

@[simp] theorem Attempt.sequence_abandoned (a : Attempt) (b : Bool) :
    ({ a with abandoned := b } : Attempt).sequence = a.sequence := rfl

/-- The STOP is the last place of every sequence (R128, R129). -/
theorem Attempt.sequence_ends (a : Attempt) : a.sequence = a.sequence.dropLast ++ [.stop] := by
  unfold Attempt.sequence
  rw [List.dropLast_concat]

theorem Attempt.sequence_length_pos (a : Attempt) : 0 < a.sequence.length := by
  rw [a.sequence_ends]
  simp

theorem Attempt.writing_iff (a : Attempt) :
    a.writing = true ↔ ∃ b, a.sequence[a.position]? = some (.write b) := by
  unfold Attempt.writing Attempt.item
  split
  · simp_all
  · simp only [Bool.false_eq_true, false_iff, not_exists]
    intro x hx
    rename_i h
    exact h x hx

theorem Attempt.atStop_iff (a : Attempt) : a.atStop = true ↔ a.position + 1 = a.sequence.length := by
  simp [Attempt.atStop]

theorem Bus.onBus_some_iff {b : Bus} {a : Attempt} :
    b.onBus = some a ↔ b.state = .transfer ∧ b.attempt = some a := by
  unfold Bus.onBus
  split <;> simp_all

end Sys2Proof.Machine
end

