-- ==== Sys2Proof/Tests/Slice0.lean ====
section
/-! SUPPORT. The model's own tests: ill-formed events, the CRC and frames of chapter 11, single events
with the bytes of their answers, and for each statement that has hypotheses a state and operands that
meet them. -/

set_option Elab.async false

namespace Sys2Proof.Tests

open Sys2Proof.Machine

/-! ### Ill-formed events -/

/-- Each check of WellFormed refuses a term just outside its range. -/
theorem test_illFormed :
    [Instr.commandTransaction 0 (.rise [] 8), .mpWrite 0x3A [] 8, .mpRead 0x3A 0 true, .tick 0,
      .tick 1025, .attemptNack 0 ⟨true, true⟩, .attemptNack 9 ⟨true, true⟩, .stall 0, .stall 11,
      .recoveryEnd 10 true ⟨true, true⟩, .recoveryEnd 8 false ⟨true, true⟩,
      .recoveryTimeout 10 ⟨true, true⟩, .abandonedAttemptEnd 11 ⟨true, true⟩].all
      (fun i => !i.wellFormed) = true := by decide

/-- Each check of WellFormed passes a term just inside its range. -/
theorem test_wellFormed :
    [Instr.commandTransaction 0 (.rise [] 7), .mpWrite 0x3A [] 7, .mpRead 0x3A 1 true, .tick 1,
      .tick 1024, .attemptNack 1 ⟨true, true⟩, .attemptNack 8 ⟨true, true⟩, .stall 1, .stall 10,
      .recoveryEnd 9 false ⟨true, true⟩, .recoveryEnd 0 true ⟨true, true⟩,
      .recoveryTimeout 0 ⟨true, true⟩, .recoveryTimeout 9 ⟨true, true⟩,
      .abandonedAttemptEnd 0 ⟨true, true⟩, .abandonedAttemptEnd 10 ⟨true, true⟩].all Instr.wellFormed = true := by decide

/-! ### A scene -/

/-- A defined entry, FREE and unbound. -/
def freeEntry (key : Word) : Entry :=
  { state := .free, key := key, generation := 1
    current := { term := 50, warnLead := 5, renewLimit := 2 }
    staged := none, priority := 5, profile := none, line := none, holders := 0
    exclusiveHolder := none, queue := [], spentReported := false }

/-- Held by the record of lease slot 0, with that of lease slot 127 waiting. -/
def heldExclusive : Entry :=
  { freeEntry 7 with
    state := .heldExclusive, generation := 2, profile := some 0
    line := some { line := 0, mode := .exclusive }, holders := 1, exclusiveHolder := some 0
    queue := [127] }

def fenceFailed : Entry :=
  { freeEntry 9 with state := .fenceFailed, generation := 6, profile := some 0 }

/-- Held by the records of lease slots 1 and 3. -/
def heldShared : Entry :=
  { freeEntry 10 with state := .heldShared, generation := 4, holders := 2 }

def spentEntry : Entry := { freeEntry 11 with generation := 0xFFFFFFFE }

def fencing : Entry := { freeEntry 12 with state := .fencing, generation := 3, profile := some 1 }

def recordOf (session : SessSlot) (resource : DirSlot) (mode : LeaseMode) : LeaseRecord :=
  { state := .active, session := session, resource := resource, mode := mode, token := some 2
    expiry := some 150, warn := some 145, wait := none, renewCount := 0, notice := none
    endCause := none }

/-- Its warn mark is some ticks ahead. -/
def activeRecord : LeaseRecord := recordOf 0 0 .exclusive

/-- Its expiry mark is reached at count 100. -/
def warnedRecord : LeaseRecord :=
  { recordOf 0 3 .shared with
    state := .warned, token := some 4, expiry := some 100, warn := none
    notice := some { kind := .warning, priority := 5 } }

def endedRecord : LeaseRecord :=
  { recordOf 1 1 .shared with
    state := .ended, token := some 1, expiry := none, warn := none
    notice := some { kind := .ended, priority := 2 }, endCause := some .expired }

/-- Its warn mark is reached at count 100. -/
def dueRecord : LeaseRecord :=
  { recordOf 3 3 .shared with token := some 4, expiry := some 105, warn := some 100 }

/-- Its wait mark is reached at count 100. -/
def waitingRecord : LeaseRecord :=
  { recordOf 1 0 .exclusive with
    state := .waiting, token := none, expiry := none, warn := none, wait := some 100 }

def sessionOf (port : PortIx) (records : List LeaseSlot) : Session :=
  { state := .opened, port := port, term := 100, warnLead := 10, warnPriority := 3
    noticeMode := .fetchRetires, quota := 3, expiry := some 200, warn := some 190, records := records
    notice := none, lapseCause := none }

def openSession0 : Session := sessionOf 0 [0, 1]

/-- WARNED, and its notices must be acknowledged. -/
def warnedSession : Session :=
  { sessionOf 0 [127, 2] with
    state := .warned, noticeMode := .ackRequired, expiry := some 110, warn := none
    notice := some .sessionWarning }

def lapsedSession : Session :=
  { sessionOf 1 [] with
    state := .lapsed, expiry := none, warn := none, notice := some .sessionLapsed
    lapseCause := some .expired }

/-- Its warn mark is reached at count 100. -/
def dueSession : Session := { sessionOf 2 [3] with expiry := some 110, warn := some 100 }

/-- Its expiry mark is reached at count 100. -/
def expiredSession : Session := { sessionOf 4 [] with expiry := some 100, warn := none, warnLead := 0 }

/-- A profile that writes the generation. -/
def profile0 : Profile :=
  { target := 0x08, register := 0x10, form := .generation, fixedValue := 0, verify := false, retries := 0 }

/-- A profile that writes and verifies a fixed value. -/
def profile1 : Profile :=
  { target := 0x77, register := 0x20, form := .fixed, fixedValue := 0xA0, verify := true, retries := 1 }

def job : FenceJob :=
  { resource := 5, generation := 3, profile := profile1, attempts := 1, state := .inFlight }

/-- The tables of a part in use: sessions, records and entries in most of their states, a fence job in
flight, and marks that are reached at the present count. -/
def scene : State :=
  { State.reset with
    directory := put (put (put (put (put (put (put (.replicate 64 none) 0 (some heldExclusive)) 1
      (some (freeEntry 8))) 2 (some fenceFailed)) 3 (some heldShared)) 4 (some spentEntry)) 5
      (some fencing)) 63 (some (freeEntry 99))
    leases := put (put (put (put (put (.replicate 128 { issue := 0, record := none }) 0
      { issue := 9, record := some activeRecord }) 1 { issue := 1, record := some warnedRecord }) 2
      { issue := 3, record := some endedRecord }) 3 { issue := 4, record := some dueRecord }) 127
      { issue := 0xFFFF, record := some waitingRecord }
    sessions := put (put (put (put (put (.replicate 16 { tag := 0, session := none }) 0
      { tag := 5, session := some openSession0 }) 1 { tag := 6, session := some warnedSession }) 2
      { tag := 7, session := some lapsedSession }) 3 { tag := 8, session := some dueSession }) 15
      { tag := 9, session := some expiredSession }
    clock := { count := 100, divider := 0, state := .running, periods := 0 }
    fenceQueue := [job]
    profiles := put (put (.replicate 8 none) 0 (some profile0)) 1 (some profile1)
    bus := { Bus.reset with
      state := .transfer, runSpeed := some .khz100, attempt := some job.attempt }
    alerts := { Alerts.empty with
      fenceFailed := put (.replicate 64 false) 2 true
      sessionLapsed := put (.replicate 16 none) 2 (some { cause := .expired, port := 1 }) }
    started := true }

/-- The scene with its attempt at place `k` of its sequence, abandoned or not. -/
def sceneAt (k : Nat) (abandoned : Bool) : State :=
  { scene with bus := { scene.bus with
    attempt := some { job.attempt with position := k, abandoned := abandoned } } }

/-- Port `p` of the state holds a frame, and no other port does. -/
def asks (p : PortIx) (code : Byte) (args : List Byte) (s : State) : State :=
  { s with ports := put (.replicate 5 .reset) p { Port.reset with state := .pending ⟨code, args⟩ } }

theorem asks_next (p : PortIx) (code : Byte) (args : List Byte) (s : State) :
    (asks p code args s).nextTake = some (p, ⟨code, args⟩) := by
  have h : ∀ last : PortIx, ((rotation last).findSome? fun q =>
      ((put (.replicate 5 Port.reset) p
        { Port.reset with state := .pending ⟨code, args⟩ }).get q).heldFrame.map
        fun f => (q, f)) = some (p, ⟨code, args⟩) := by
    intro last
    fin_cases p <;> fin_cases last <;> rfl
  exact h s.lastServed

/-- The state that an event leaves. -/
def after (c : Instr) (s : State) : State :=
  match exec c s with
  | .next t => t
  | .fault _ => s
  | .refused _ => s

/-- What port `p` holds after an event that takes its frame: the status and the fields. -/
def replied (c : Instr) (p : PortIx) (s : State) : Option (Byte × List Byte) :=
  ((after c s).port p).heldReply.map fun r => (r.status.code, r.fields)

def high : BusLines := { escl := true, esda := true }

/-! ### Frames on the wire (chapter 11) -/

/-- The CRC-8 of R175's own example, and a READ CLOCK frame written out byte by byte. -/
theorem test_crcExample : crc8 [0x09, 0x00] = 0x6A ∧
    parseFrame [0x09, 0x00, 0x6A] 0 = some ⟨0x09, []⟩ := by decide +kernel

/-- A frame is malformed for each reason of R162 alone. -/
theorem test_malformedFrames :
    [parseFrame [] 0, parseFrame [0x09] 0, parseFrame [0x09, 0x00] 0,
      parseFrame [0x09, 0x00, 0x6A, 0x00] 0, parseFrame [0x09, 0x00, 0x6B] 0,
      parseFrame [0x09, 0x00, 0x6A] 1, parseFrame (Frame.bytes ⟨0x09, List.replicate 25 0⟩) 0].all
      Option.isNone = true := by decide +kernel

/-- An SPI COMMAND transaction with that frame leaves the port PENDING, and the arbiter then answers the
count, RUNNING and the divider code. -/
theorem test_readClockFromTheWire :
    let s := after (.commandTransaction 2 (.rise [0xC1, 0x09, 0x00, 0x6A] 0))
      (after (.commandTransaction 2 .fall) scene)
    (s.port 2).heldFrame = some ⟨0x09, []⟩ ∧
      replied .readClock 2 s = some (0x00, [0, 0, 0, 100, 1, 0]) := by decide +kernel

/-- The READ that follows sends the status byte READY, the length, the response, its CRC and 0xFF. -/
theorem test_readSendsTheResponse :
    ((after (.readTransaction 2 (.rise 6)) (after (.readTransaction 2 .typed)
      (after (.readTransaction 2 .fall) (scene.setPort 2
        { Port.reset with state := .ready ⟨0x05, .stale, []⟩ })))).port 2).sent =
      some [0x02, 2, 0x05, 0x40, crc8 [2, 0x05, 0x40], 0xFF, 0xFF] := by decide +kernel

/-! ### Single events and the bytes of their answers -/

theorem test_openSession :
    replied .openSession 3 (asks 3 0x01 [0, 60, 0, 10, 4, 1, 0] scene) =
      some (0x00, [4, 0, 1, 1, 0, 0, 0, 160, 0, 0, 0, 150, 16]) := by decide +kernel

theorem test_keepalive :
    replied .keepalive 0 (asks 0 0x02 [1, 0, 6] scene) =
      some (0x00, [1, 0, 0, 0, 200, 0, 0, 0, 190]) := by decide +kernel

theorem test_closeSession_lapsed :
    replied .closeSession 1 (asks 1 0x03 [2, 0, 7] scene) = some (0x42, []) := by decide +kernel

theorem test_acquire_exclusive :
    replied .acquire 0 (asks 0 0x04 [1, 0, 6, 0, 0, 0, 8, 1, 0, 0] scene) =
      some (0x00, [4, 0, 1, 0, 0, 0, 2, 0, 0, 0, 150]) := by decide +kernel

theorem test_acquire_spent :
    let s := asks 0 0x04 [1, 0, 6, 0, 0, 0, 11, 1, 0, 0] scene
    replied .acquire 0 s = some (0x52, []) ∧
      (after .acquire s).alerts.generationSpent.get 4 = true := by decide +kernel

theorem test_release_lastExclusive :
    let s := after .release (asks 0 0x05 [0, 0, 5, 0, 0, 9] scene)
    (s.entry 0).map (fun e => (e.state, e.generation, e.exclusiveHolder, e.queue)) =
      some (.heldExclusive, 3, some 127, []) := by decide +kernel

theorem test_renew :
    replied .renew 0 (asks 0 0x06 [0, 0, 5, 1, 0, 1] scene) =
      some (0x00, [1, 0, 0, 0, 150, 0, 0, 0, 145, 1]) := by decide +kernel

theorem test_queryLease :
    replied .queryLease 0 (asks 0 0x07 [1, 0, 6, 127, 0xFF, 0xFF] scene) =
      some (0x00, [1, 127, 0xFF, 0xFF, 0, 0, 0, 7, 1, 0x18, 0, 0, 0, 0, 0, 0, 0, 0, 0, 0, 0, 0,
        0, 0, 0, 100, 0, 0, 0, 0, 1]) := by decide +kernel

theorem test_queryResource :
    replied .queryResource 3 (asks 3 0x08 [0, 0, 0, 7] scene) =
      some (0x00, [2, 0, 0, 0, 2, 1, 1, 0, 0, 9, 1, 0, 50, 0, 5, 2]) := by decide +kernel

theorem test_fetchNotice :
    replied .fetchNotice 0 (asks 0 0x0A [0, 0, 5] scene) =
      some (0x00, [2, 5, 7, 1, 0, 1, 0, 0, 0, 10, 0, 0, 0, 0, 4, 0, 0, 0, 100, 0, 0, 0, 0, 0, 0]) := by
  decide +kernel

theorem test_fetchNotice_sessionLapsed :
    let s := asks 1 0x0A [2, 0, 7] scene
    replied .fetchNotice 1 s =
        some (0x00, [5, 7, 0] ++ List.replicate 20 0 ++ [1, 0]) ∧
      (after .fetchNotice s).session 2 = none := by decide +kernel

theorem test_defineResource :
    replied .defineResource 4
      (asks 4 0x21 [0, 0, 0, 55, 0, 9, 0, 1, 0, 7, 1, 15, 0] scene) =
      some (0x00, [6, 0, 0, 0, 1]) := by decide +kernel

theorem test_forceRevoke_shared :
    let s := asks 4 0x24 [0, 0, 0, 10] scene
    replied (.forceRevoke high) 4 s = some (0x00, [2, 0, 0, 0, 0, 4]) := by decide +kernel

theorem test_clearFence_retry :
    let s := asks 4 0x25 [0, 0, 0, 9, 1] scene
    replied (.clearFenceRetry high) 4 s = some (0x00, [3, 0, 0, 0, 6]) ∧
      (after (.clearFenceRetry high) s).fenceQueue.length = 2 := by decide +kernel

theorem test_holdExpiry_exclusive_fences :
    let s := after (.holdExpiry 0 high) { scene with clock := { scene.clock with count := 150 } }
    (s.entry 0).map (fun e => (e.state, e.generation)) = some (.fencing, 3) ∧
      (s.record 0).map (fun r => (r.state, r.endCause)) = some (.ended, some .expired) ∧
      s.fenceQueue.map FenceJob.resource = [5, 0] := by decide +kernel

/-- An attempt moves on one place at a time, from START to STOP. -/
theorem test_attemptSuccess_moves :
    ∀ k < 10, (after (.attemptSuccess .moved) (sceneAt k false)).bus.attempt =
      some { job.attempt with position := k + 1 } := by decide +kernel

/-- The bytes of a verified fixed write to target 0x77: address bytes 0xEE and 0xEF. -/
theorem test_attemptSuccess_drives :
    let s := after (.attemptSuccess (.ended high)) (sceneAt 10 false)
    s.bus.driven = [.start, .write 0xEE, .write 0x20, .write 0xA0, .repeatedStart, .write 0xEE,
      .write 0x20, .repeatedStart, .write 0xEF, .read, .stop] ∧
      (s.entry 5).map Entry.state = some .free ∧ s.fenceQueue = [] := by decide +kernel

theorem test_attemptNack_retries_then_fails :
    let s := after (.attemptNack 1 high) (sceneAt 1 false)
    s.fenceQueue.map FenceJob.attempts = [2] ∧ s.bus.driven = [.start, .write 0xEE, .stop] ∧
      (after (.attemptNack 1 high) (after (.attemptSuccess .moved) s)).alerts.fenceFailed.get 5 = true := by
  decide +kernel

/-- A stall of the STOP recovers as one of the byte before it, and an attempt abandoned at its START does
not stall (log 23). -/
theorem test_stall_places :
    (after (.stall 10) (sceneAt 10 false)).bus.driven.length = 10 ∧
    (after (.stall 7) (sceneAt 7 true)).bus.state = .recovery ∧
    (after (.stall 0) (sceneAt 0 true)).bus.state = .transfer := by decide +kernel

theorem test_setLine :
    replied .setLine 4 (asks 4 0x34 [0, 1, 1] scene) = some (0x00, [0, 1, 1, 0, 1, 0]) := by
  decide +kernel

theorem test_setThreshold :
    replied .setThreshold 4 (asks 4 0x38 [1, 6] scene) = some (0x00, [1, 6, 1]) := by decide +kernel

theorem test_readAlerts :
    replied .readAlerts 4 (asks 4 0x39 [0] scene) =
      some (0x00, [2, 2, 1, 2, 0, 0, 3, 2, 1, 1]) := by decide +kernel

theorem test_warmReset :
    let s := asks 4 0x3F [] scene
    replied (.warmReset high) 4 s = some (0x00, [3]) ∧
      (after (.warmReset high) s).fenceQueue.map FenceJob.resource = [0, 2, 5] := by decide +kernel


/-! ### States and operands that meet the hypotheses of the statements -/

/-- An agent port with a transaction in progress. -/
def inTransaction (st : PortState) (sending : Option (Option Reply)) (judged : Bool) : Port :=
  { Port.reset with
    state := st, rejected := true
    transaction := some { status := 0, judged := judged, sending := sending } }

def heldFrame : Frame := { code := 0x09, args := [] }
def heldReply : Reply := { code := 0x09, status := .ok, fields := [0, 0, 0, 1, 0, 2] }

theorem test_witness_step : State.reset.pending = [] ∧
    step { State.reset with pending := [.startupComplete] } = exec .startupComplete State.reset :=
  ⟨rfl, rfl⟩

/-- For ColdResetTakesEveryBlockToItsValues: chip select low and high, RESETN low and high. -/
theorem test_witness_ColdReset :
    let s := scene.setPort 0 (inTransaction .idle none true)
    s.misoDriven 0 = true ∧ s.misoDriven 1 = false ∧
    (after (.coldReset .fall) s).misoDriven 0 = false ∧
    (after (.coldReset (.rise true)) (after (.coldReset .fall) s)).misoDriven 0 = true ∧
    (after (.coldReset (.rise true)) s).mpAddress = 0x3B := by decide +kernel

/-- For PortsAcceptNothingBeforeStartupCompletes: RESETN high and low, no transaction yet, one that is not
judged before and after its type byte, also with the start-up time over, and a whole one in it. -/
theorem test_witness_PortsAcceptNothingBeforeStartupCompletes :
    State.reset.started = false ∧ State.reset.resetLow = false ∧
    (after (.coldReset .fall) scene).resetLow = true ∧
    (∀ p, (State.reset.port (agentIx p)).transaction = none) ∧
    State.reset.transacts (agentIx 0) { status := 0, judged := false, sending := none } ∧
    ∀ sending ∈ [none, some none, some (some heldReply)],
      (scene.setPort 0 (inTransaction .idle sending false)).started = true ∧
      (scene.setPort 0 (inTransaction .idle sending false)).transacts (agentIx 0)
        { status := 0, judged := false, sending := sending } := by
  unfold State.transacts
  decide +kernel

/-- Each way of being malformed at its boundary, and good frames at the shortest and longest length. -/
theorem test_witness_frames :
    (∀ b ∈ [([] : List Byte), [0x09], [0x09, 0], [0x09, 0, 0x6A, 0], [0x09, 0, 0x6B],
      Frame.bytes ⟨0x04, List.replicate 25 1⟩], malformed b 0) ∧ malformed [0x09, 0, 0x6A] 1 ∧
    malformed [0x09, 0, 0x6A] 7 ∧
    (∀ b ∈ [Frame.bytes heldFrame, Frame.bytes ⟨0x04, List.replicate 24 1⟩, Frame.bytes ⟨0x0F, [0]⟩],
      ¬ malformed b 0 ∧ ¬ (b.headD 0 = 0x0F ∧ b.getD 1 0 = 0)) ∧
    let r := Frame.bytes resetPortFrame
    ¬ malformed r 0 ∧ r.headD 0 = 0x0F ∧ r.getD 1 0 = 0 := by
  unfold malformed; decide +kernel

/-- For CommandFrameIsJudgedInIdle, CommandFrameIsDiscardedAtABusyPort and ResetPortIsTakenAtThePort, with
the frames above: chip select low, and a whole transaction in the event. -/
theorem test_witness_ports :
    (∀ st ∈ [PortState.idle, .pending heldFrame, .ready heldReply],
      (let s := scene.setPort 3 (inTransaction st none true)
       s.transacts (agentIx 3) { status := 0, judged := true, sending := none } ∧
         (s.port (agentIx 3)).state = st) ∧
      let s := scene.setPort 3 { Port.reset with state := st }
      s.transacts (agentIx 3) { status := s.statusByte 3, judged := true, sending := none } ∧
        (s.port (agentIx 3)).state = st) ∧
    PortState.pending heldFrame ≠ .idle ∧ PortState.ready heldReply ≠ .idle := by
  unfold State.transacts
  decide +kernel

/-- For ReadSendsTheHeldResponse: READY or not at the type byte, and at the rise a READ of the whole
response (its length and two bytes more), one byte less, a READ that began without one, and a whole READ
in the event. -/
theorem test_witness_ReadSendsTheHeldResponse :
    (∀ sending ∈ [none, some (some heldReply), some none],
      (scene.setPort 0 (inTransaction (.ready heldReply) sending true)).transacts (agentIx 0)
        { status := 0, judged := true, sending := sending }) ∧
    (∀ st ∈ [PortState.idle, .pending heldFrame, .ready heldReply],
      let s := scene.setPort 0 { Port.reset with state := st }
      s.transacts (agentIx 0) { status := s.statusByte 0, judged := true, sending := none }) ∧
    (∀ st ∈ [PortState.idle, .pending heldFrame], ∀ r, st ≠ .ready r) ∧
    (heldReply.fields.length + 2) + 2 ≤ 10 ∧ ¬ (heldReply.fields.length + 2) + 2 ≤ 9 := by
  unfold State.transacts
  refine ⟨by decide +kernel, by decide +kernel, ?_, by decide, by decide⟩
  intro st h r
  fin_cases h <;> simp

/-- For StatusByteIsCapturedAtTheFall: no transaction yet; one in progress, before and after its type byte;
and type bytes beside COMMAND and READ. -/
theorem test_witness_StatusByteIsCapturedAtTheFall :
    (scene.port (agentIx 0)).transaction = none ∧
    (∀ sending ∈ [none, some none],
      ((scene.setPort 0 (inTransaction .idle sending true)).port (agentIx 0)).transaction =
        some { status := 0, judged := true, sending := sending }) ∧
    (∀ t ∈ [(0x00 : Byte), 0xC0, 0xC2, 0xA4, 0xA6, 0xFF], t ≠ 0xC1 ∧ t ≠ 0xA5) ∧
    (∀ m ∈ [([] : List Byte), [0xC1, 0xA5]], m.head? ≠ some 0xA5) := by decide +kernel

/-- For ManagementWriteIsJudgedOrRefused, ManagementReadConsumesAWholeResponse and
ResetPortIsTakenAtThePort: each state of the management port, 27 and 28 bytes, the two sides of a whole
read, and another address. -/
theorem test_witness_managementPort :
    scene.started = true ∧
    (∀ st ∈ [PortState.idle, .pending heldFrame, .ready heldReply],
      ((scene.setPort 4 { Port.reset with state := st }).port 4).state = st ∧
        (scene.setPort 4 { Port.reset with state := st }).started = true) ∧
    ¬ 27 < (List.replicate 27 (0 : Byte)).length ∧ 27 < (List.replicate 28 (0 : Byte)).length ∧
    (heldReply.fields.length + 2) + 3 ≤ 11 ∧ ¬ (heldReply.fields.length + 2) + 3 ≤ 10 ∧
    (0x3B : BitVec 7) ≠ scene.mpAddress := by decide +kernel

theorem test_witness_resetPortBadArg :
    (asks 2 0x0F [1] scene).nextTake = some (2, ⟨0x0F, [1]⟩) ∧ [(1 : Byte)] ≠ [] :=
  ⟨asks_next .., by decide⟩

/-- For ArbiterServesThePortsInRotation: a frame taken and the frame that no row takes. -/
theorem test_witness_arbiter :
    (∀ f ∈ [heldFrame, ⟨0x0F, [1]⟩, ⟨0x29, [1]⟩, ⟨0x3F, []⟩, ⟨0xEE, []⟩],
      (asks 1 f.code f.args State.reset).nextTake = some (1, f) ∧
        ¬ (f.code = Code.resetPort ∧ f.args = []) ∧
        ¬ (f.code = Code.clockStop ∧ (asks 1 f.code f.args State.reset).markDue = true)) ∧
    (∃ lines, Instr.openSession = Frame.event ⟨0x01, []⟩ lines) ∧
    Instr.openSession ≠ Frame.event heldFrame high := by
  refine ⟨by decide +kernel, ⟨high, rfl⟩, by decide⟩

/-- For FramesAreCheckedBeforeEveryCommand: unknown codes beside known ones; a management command from an
agent port; lengths on both sides of the one that 11.3 gives. -/
theorem test_witness_FramesAreCheckedBeforeEveryCommand :
    (∀ c ∈ [(0x00 : Byte), 0x0C, 0x0E, 0x10, 0x20, 0x40, 0xFF], c ∉ commandTable.map Prod.fst) ∧
    (0x21, 13, true) ∈ commandTable ∧ (3 : PortIx) ≠ 4 ∧ (0x01, 7, false) ∈ commandTable ∧
    (∀ n ∈ [6, 8], (List.replicate n (0 : Byte)).length ≠ 7) ∧
    (∀ n ∈ [12, 14], (List.replicate n (0 : Byte)).length ≠ 13) ∧
    (asks 3 0x21 [] scene).nextTake = some (3, ⟨0x21, []⟩) := by
  refine ⟨by decide, by decide, by decide, by decide, by decide, by decide, asks_next ..⟩

/-- For HandlesAreCheckedInOrder: session slots 15 and 16, lease slots 127 and 128, and a handle for each
refusal of steps 2 to 6. -/
theorem test_witness_HandlesAreCheckedInOrder :
    (asks 0 0x02 [16, 0, 5] scene).nextTake = some (0, ⟨0x02, [16, 0, 5]⟩) ∧
    (argByte [16, 0, 5] 0).toNat = 16 ∧ (argByte [15, 0, 9] 0).toNat = 15 ∧
    (argByte [0, 0, 5, 128, 0, 9] 3).toNat = 128 ∧ (argByte [0, 0, 5, 127, 0, 9] 3).toNat = 127 ∧
    [scene.sessionRefusal 0 0x02 14 0, scene.sessionRefusal 0 0x02 0 6, scene.sessionRefusal 1 0x02 0 5,
      scene.sessionRefusal 1 0x02 2 7, scene.sessionRefusal 1 0x03 2 7, scene.sessionRefusal 4 0x02 15 9] =
      [some .stale, some .stale, some .notOwner, some .lapsed, none, none] ∧
    [scene.leaseRefusal 0 126 0, scene.leaseRefusal 0 0 8, scene.leaseRefusal 1 0 9,
      scene.leaseRefusal 1 127 0xFFFF] = [some .stale, some .stale, some .notOwner, none] ∧
    [argByte [1, 0, 6, 1, 127, 0, 0] 3, argByte [1, 0, 6, 0, 0, 0, 0] 3,
      argByte [1, 0, 6, 2, 0, 0, 0] 3] = [1, 0, 2] := by
  refine ⟨asks_next .., ?_⟩
  decide +kernel

/-- A finite form of a statement about every entry of a state. -/
theorem everyEntry {s : State} {P : Entry → Prop} [DecidablePred P]
    (h : ∀ i, (s.entry i).all (fun e => decide (P e)) = true) : ∀ i e, s.entry i = some e → P e := by
  intro i e he
  have := h i
  rw [he] at this
  exact of_decide_eq_true this

/-- For KeysNameEntries: a key that no entry holds, with each of the five commands. -/
theorem test_witness_KeysNameEntries :
    (∀ i e, scene.entry i = some e → e.key ≠ argWord [0, 0, 0, 1, 1] 0) ∧
    (∀ q ∈ [((4 : PortIx), (0x22 : Byte), 14), (4, 0x23, 4), (0, 0x08, 4), (4, 0x24, 4), (4, 0x25, 5)],
      let args : List Byte := ([0, 0, 0, 1, 1] ++ List.replicate 9 0).take q.2.2
      (asks q.1 q.2.1 args scene).nextTake = some (q.1, ⟨q.2.1, args⟩) ∧ args.length = q.2.2) ∧
    scene.findKey 99 = some (63, freeEntry 99) := by
  refine ⟨everyEntry (by decide +kernel), ?_, by decide +kernel⟩
  intro q h
  exact ⟨asks_next .., by fin_cases h <;> rfl⟩

/-- A part whose session, lease and directory tables are full; its sessions belong to port 0. -/
def full : State :=
  { scene with
    directory := .replicate 64 (some (freeEntry 7))
    leases := .replicate 128 { issue := 1, record := some endedRecord }
    sessions := .replicate 16 { tag := 5, session := some (sessionOf 0 []) } }

/-- For OpenSessionTakesTheLowestVacantSlot: each argument on both sides of its range, a full table, and
the lowest VACANT slot. -/
theorem test_witness_OpenSessionTakesTheLowestVacantSlot :
    (∀ args : List Byte, (asks 0 0x01 args scene).nextTake = some (0, ⟨0x01, args⟩)) ∧
    (∀ args ∈ [([0, 0, 0, 0, 7, 1, 128] : List Byte), [0, 1, 0, 0, 8, 1, 128], [0, 1, 0, 0, 7, 2, 128],
        [0, 1, 0, 0, 7, 1, 129]],
      args.length = 7 ∧ (argHalf args 0 = 0 ∨ 7 < (argByte args 4).toNat ∨ 1 < (argByte args 5).toNat ∨
        128 < (argByte args 6).toNat)) ∧
    (∀ args ∈ [([0, 1, 0, 0, 7, 1, 128] : List Byte), [0xFF, 0xFF, 0xFF, 0xFF, 0, 0, 0]],
      args.length = 7 ∧ ¬ (argHalf args 0 = 0 ∨ 7 < (argByte args 4).toNat ∨
        1 < (argByte args 5).toNat ∨ 128 < (argByte args 6).toNat)) ∧
    (∀ i, full.session i ≠ none) ∧ isLowest (fun j => scene.session j = none) 4 ∧
    isLowest (fun j => (full.setSession 15 none).session j = none) 15 := by
  refine ⟨fun _ => asks_next .., by decide, by decide, by decide +kernel, ?_, ?_⟩ <;>
    · unfold isLowest; decide +kernel

/-- For KeepaliveSetsNewMarks and CloseSessionFreesTheRecordsAndTheSlot. -/
theorem test_witness_sessions :
    (∀ p q args, (asks p q args scene).nextTake = some (p, ⟨q, args⟩)) ∧
    scene.namesSession 0 [0, 0, 5] 0 openSession0 ∧ openSession0.alive ∧
    scene.namesSession 1 [2, 0, 7] 2 lapsedSession ∧ ¬ lapsedSession.alive := by
  refine ⟨fun _ _ _ => asks_next .., ?_⟩
  unfold State.namesSession Session.alive
  decide +kernel

/-- For PurgeSessionLapsesAndFreesTheSlot and SessionLapsesAtItsExpiryMark: slots 15 and 16, a VACANT
slot, a live and a LAPSED session, a reached mark and one that is not, and the kinds of record that the
walk meets. -/
theorem test_witness_lapse :
    (∀ args : List Byte, (asks 4 0x2C args scene).nextTake = some (4, ⟨0x2C, args⟩)) ∧
    (argByte [15] 0).toNat = 15 ∧ (argByte [16] 0).toNat = 16 ∧
    scene.session 14 = none ∧ scene.session 15 = some expiredSession ∧ expiredSession.alive ∧
    scene.session 2 = some lapsedSession ∧ ¬ lapsedSession.alive ∧
    scene.reached expiredSession.expiry = true ∧ scene.reached openSession0.expiry = false ∧
    [scene.record 0, scene.record 1, scene.record 127, scene.record 2] =
      [some activeRecord, some warnedRecord, some waitingRecord, some endedRecord] ∧
    activeRecord.mode = .exclusive ∧ warnedRecord.mode = .shared := by
  refine ⟨fun _ => asks_next .., ?_⟩
  unfold Session.alive
  decide +kernel

theorem scene_claims (d : DirSlot) : scene.claims warnedSession d ↔ d = 0 := by
  constructor
  · rintro ⟨l, r, hl, hr, hrd, he⟩
    fin_cases hl
    · have : r = waitingRecord := Option.some.inj (hr.symm.trans (by rfl))
      rw [← hrd, this]
      rfl
    · have : r = endedRecord := Option.some.inj (hr.symm.trans (by rfl))
      exact absurd (by rw [this]; rfl) he
  · rintro rfl
    exact ⟨127, waitingRecord, by decide, by rfl, rfl, by decide⟩

/-- For AcquireIsCheckedInOrder, up to SPENT: mode 2, a stale handle, an unknown key, a second claim on
the entry of key 7, and an exclusive request on a spent entry. -/
theorem test_witness_AcquireIsCheckedInOrder :
    (∀ args : List Byte, (asks 0 0x04 args scene).nextTake = some (0, ⟨0x04, args⟩)) ∧
    ((argByte [1, 0, 6, 0, 0, 0, 8, 2, 0, 0] 7).toNat = 2 ∧
      scene.sessionRefusal 0 0x04 1 5 = some .stale) ∧
    (scene.namesSession 0 [1, 0, 6, 0, 0, 0, 1, 0, 0, 0] 1 warnedSession ∧ warnedSession.alive ∧
      scene.findKey (argWord [1, 0, 6, 0, 0, 0, 1, 0, 0, 0] 3) = none) ∧
    (scene.acquireNames 0 [1, 0, 6, 0, 0, 0, 7, 1, 0, 0] .exclusive 1 warnedSession 0 heldExclusive ∧
      scene.claims warnedSession 0) ∧
    (scene.acquireNames 0 [1, 0, 6, 0, 0, 0, 11, 1, 0, 0] .exclusive 1 warnedSession 4 spentEntry ∧
      ¬ scene.claims warnedSession 4 ∧ spentEntry.spent = true ∧ spentEntry.spentReported = false) ∧
    { spentEntry with spentReported := true }.spent = true := by
  simp only [scene_claims]
  unfold State.acquireNames State.namesSession Session.alive
  exact ⟨fun _ => asks_next .., by decide +kernel, by decide +kernel, by decide +kernel,
    by decide +kernel, by decide⟩

/-- For AcquireIsCheckedInOrder, from QUOTA to CONFLICT: a session at its quota, a full lease table, and
a request with wait limit 0 that cannot be granted at once. -/
theorem test_witness_acquireRefusals :
    scene.recordCount { openSession0 with quota := 2 } = 2 ∧
    (full.recordCount (sessionOf 0 []) ≠ (sessionOf 0 []).quota ∧ ∀ l, full.record l ≠ none) ∧
    (scene.acquireNames 0 [1, 0, 6, 0, 0, 0, 10, 1, 0, 0] .exclusive 1 warnedSession 3 heldShared ∧
      ¬ scene.claims warnedSession 3 ∧ ¬ heldShared.spent = true ∧
      scene.recordCount warnedSession ≠ warnedSession.quota ∧ scene.record 4 = none ∧
      ¬ heldShared.takesAtOnce .exclusive ∧ argHalf [1, 0, 6, 0, 0, 0, 10, 1, 0, 0] 8 = 0) := by
  simp only [scene_claims]
  unfold State.acquireNames State.namesSession Session.alive Entry.takesAtOnce
  exact ⟨by decide +kernel, by decide +kernel, by decide +kernel⟩

/-- For AcquireGrantsAtOnceOrQueues: an exclusive grant from FREE, a shared one in HELD_SHARED, and
waits with limits 1, 65534 and 65535. -/
theorem test_witness_AcquireGrantsAtOnceOrQueues :
    (∀ q ∈ [((8 : Byte), (1 : Byte), LeaseMode.exclusive, (1 : DirSlot), freeEntry 8),
        (10, 0, .shared, 3, heldShared), (10, 1, .exclusive, 3, heldShared)],
      let args := [1, 0, 6, 0, 0, 0, q.1, q.2.1, 0, 1]
      (asks 0 0x04 args scene).nextTake = some (0, ⟨0x04, args⟩) ∧
      (asks 0 0x04 args scene).acquirePasses 0 args q.2.2.1 1 warnedSession q.2.2.2.1 q.2.2.2.2 4) ∧
    (freeEntry 8).takesAtOnce .exclusive ∧ heldShared.takesAtOnce .shared ∧
    ¬ heldShared.takesAtOnce .exclusive ∧
    [argHalf [0, 1] 0, argHalf [0xFF, 0xFE] 0, argHalf [0xFF, 0xFF] 0] = [1, 65534, 65535] := by
  refine ⟨fun q h => ⟨asks_next .., ?_⟩, ?_⟩
  · refine ⟨?_, ?_, ?_⟩
    · unfold State.acquireNames State.namesSession Session.alive
      fin_cases h <;> decide +kernel
    · show ¬ scene.claims warnedSession q.2.2.2.1
      rw [scene_claims]
      fin_cases h <;> decide
    · unfold isLowest
      fin_cases h <;> decide +kernel
  · unfold Entry.takesAtOnce
    decide +kernel

/-- A frame at a port leaves the tables as they are. -/
theorem asks_tables (p : PortIx) (code : Byte) (args : List Byte) (s : State) :
    let t := asks p code args s
    t.directory = s.directory ∧ t.leases = s.leases ∧ t.sessions = s.sessions ∧ t.clock = s.clock ∧
      t.fenceQueue = s.fenceQueue ∧ t.profiles = s.profiles ∧ t.bus = s.bus ∧ t.lines = s.lines ∧
      t.thresholds = s.thresholds ∧ t.alerts = s.alerts ∧ t.started = s.started := by
  simp only [asks, and_self]

/-- For ReleaseFreesTheRecord, RenewSetsNewMarks and QueriesReportAndChangeNothing: a record in each
state, the renewal limit on both sides, and the head of a wait queue. -/
theorem test_witness_leases :
    (∀ p q args, (asks p q args scene).nextTake = some (p, ⟨q, args⟩)) ∧
    (scene.namesSession 0 [0, 0, 5, 0, 0, 9] 0 openSession0 ∧
      scene.namesLease [0, 0, 5, 0, 0, 9] 3 0 0 activeRecord ∧
      scene.namesLease [0, 0, 5, 1, 0, 1] 3 0 1 warnedRecord) ∧
    (scene.namesSession 0 [1, 0, 6, 127, 0xFF, 0xFF] 1 warnedSession ∧ warnedSession.alive ∧
      scene.namesLease [1, 0, 6, 127, 0xFF, 0xFF] 3 1 127 waitingRecord ∧
      scene.namesLease [1, 0, 6, 2, 0, 3] 3 1 2 endedRecord) ∧
    (scene.session activeRecord.session = some openSession0 ∧
      scene.session waitingRecord.session = some warnedSession ∧
      scene.entry waitingRecord.resource = some heldExclusive) ∧
    (heldExclusive.current.renewLimit = 2 ∧ activeRecord.renewCount = 0 ∧
      ({ activeRecord with renewCount := 2 } : LeaseRecord).renewCount = heldExclusive.current.renewLimit) ∧
    (heldExclusive.queue[1 - 1]? = some 127 ∧ ∀ j, j + 1 < 1 → heldExclusive.queue[j]? ≠ some 127) ∧
    scene.findKey (argWord [0, 0, 0, 7] 0) = some (0, heldExclusive) := by
  unfold State.namesSession State.namesLease Session.alive
  exact ⟨fun _ _ _ => asks_next .., by decide +kernel, by decide +kernel, by decide +kernel,
    by decide, ⟨rfl, by omega⟩, by decide +kernel⟩

/-- A running clock, and no mark. -/
def quiet : State := { State.reset with clock := scene.clock }

/-- A running clock at a count, and no mark. -/
def counted (count : Word) : State := { quiet with clock := { quiet.clock with count := count } }

/-- The scene one tick before its marks are reached, and fifty ticks after. -/
def early : State := { scene with clock := { scene.clock with count := 99 } }
def late : State := { scene with clock := { scene.clock with count := 150 } }

/-- For WarnMarksWarn, HoldExpiryRevokesTheRecord and WaitExpiryEndsTheWait: marks that are reached at
the present count, and at the count one below it are not. -/
theorem test_witness_marks :
    (scene.record 3 = some dueRecord ∧ dueRecord.state = .active ∧ scene.reached dueRecord.warn = true ∧
      early.reached dueRecord.warn = false ∧ scene.entry dueRecord.resource = some heldShared) ∧
    (scene.session 3 = some dueSession ∧ dueSession.state = .opened ∧
      scene.reached dueSession.warn = true ∧ early.reached dueSession.warn = false) ∧
    (scene.record 1 = some warnedRecord ∧ scene.reached warnedRecord.expiry = true ∧
      early.reached warnedRecord.expiry = false ∧ warnedRecord.mode = .shared) ∧
    (late.record 0 = some activeRecord ∧ late.reached activeRecord.expiry = true ∧
      activeRecord.mode = .exclusive ∧ late.entry activeRecord.resource = some heldExclusive) ∧
    (scene.record 127 = some waitingRecord ∧ waitingRecord.state = .waiting ∧
      scene.reached waitingRecord.wait = true ∧ early.reached waitingRecord.wait = false ∧
      scene.entry waitingRecord.resource = some heldExclusive) := by decide +kernel

/-- For MarksAreSetAheadAndReachedByTheCount: warn leads 0, 1, one below the term and equal to it, a mark
beyond the wrap of the count, and the last count that reaches a mark. -/
theorem test_witness_MarksAreSetAheadAndReachedByTheCount :
    [warnMark 0xFFFFFFF0 0x21 0, warnMark 0xFFFFFFF0 0x21 1, warnMark 0xFFFFFFF0 0x21 0x20,
      warnMark 0xFFFFFFF0 0x21 0x21] = [none, some 0x10, some 0xFFFFFFF1, none] ∧
    [0x0F, 0x10, 0x8000000F, 0x80000010].map (fun count => (counted count).reached (some 0x10))
      = [false, true, true, false] := by decide +kernel

/-- For LeavingHoldersGiveUpTheEntry: the last of one holder, one of two, and an exclusive holder of an
entry with a valid profile and of one without. -/
theorem test_witness_LeavingHoldersGiveUpTheEntry :
    (scene.entry 0 = some heldExclusive ∧ heldExclusive.holders = 1 ∧ heldExclusive.profile = some 0 ∧
      scene.profiles.get 0 = some profile0) ∧
    (scene.entry 3 = some heldShared ∧ 1 < heldShared.holders ∧ heldShared.exclusiveHolder = none ∧
      heldShared.profile = none) := by decide +kernel

/-- The entry of the scene with a waiter, in another state and at another generation. -/
def queued (state : EntryState) (generation : Word) (reported : Bool) : State :=
  scene.setEntry 0 (some
    { heldExclusive with
      state := state, generation := generation, spentReported := reported, exclusiveHolder := none })

/-- For GrantCheckServesTheQueueInOrder: an entry of each kind, the last generation that is not spent and
the first that is, and a SHARED head. -/
theorem test_witness_GrantCheckServesTheQueueInOrder :
    (scene.entry 0 = some heldExclusive ∧ heldExclusive.state ≠ .free ∧
      heldExclusive.state ≠ .heldShared) ∧
    (scene.entry 1 = some (freeEntry 8) ∧ (freeEntry 8).queue = []) ∧
    (∀ st ∈ [EntryState.free, .heldShared], ∀ q ∈ [((0xFFFFFFFD : Word), false), (0xFFFFFFFE, true)],
      ∀ reported, ∃ e, (queued st q.1 reported).entry 0 = some e ∧ e.state = st ∧ e.queue = [127] ∧
        e.spent = q.2 ∧ e.spentReported = reported) ∧
    (∀ st g reported, (queued st g reported).record 127 = some waitingRecord) ∧
    waitingRecord.resource = 0 ∧ waitingRecord.mode = .exclusive ∧
    ((queued .free 1 false).setRecord 127 (some { waitingRecord with mode := .shared })).record 127 =
      some { waitingRecord with mode := .shared } := by
  refine ⟨by decide +kernel, by decide +kernel, ?_, fun _ _ _ => rfl, rfl, rfl, by decide +kernel⟩
  intro st hs q hq reported
  refine ⟨{ heldExclusive with
    state := st, generation := q.1, spentReported := reported, exclusiveHolder := none }, ?_, ?_⟩
  · rfl
  · fin_cases hq <;> exact ⟨rfl, rfl, by simp [Entry.spent], rfl⟩

/-- For ClockRunsInTicks, SetClockWritesAStoppedClock and ReadClockReportsTheClock: a running and a
stopped clock, a due mark and none, the last period before a tick and the one that completes it, divider
codes 7 and 8, and session slots in use and empty. -/
theorem test_witness_clock :
    (∀ p q args s, (asks p q args s).nextTake = some (p, ⟨q, args⟩)) ∧
    (scene.clock.state = .running ∧ scene.markDue = true ∧ scene.session 0 ≠ none) ∧
    (State.reset.clock.state = .stopped ∧ State.reset.markDue = false ∧
      ∀ i, State.reset.session i = none) ∧
    (scene.clock.periods + 7 < 8 * 2 ^ scene.clock.divider.val ∧
      8 * 2 ^ scene.clock.divider.val ≤ scene.clock.periods + 8) ∧
    (quiet.clock.state = .running ∧ quiet.markDue = false) ∧
    (argByte [0, 0, 0, 0, 7] 4).toNat = 7 ∧ (argByte [0, 0, 0, 0, 8] 4).toNat = 8 :=
  ⟨fun _ _ _ _ => asks_next .., by decide +kernel, by decide +kernel, by decide, by decide +kernel,
    by decide, by decide⟩

/-- One period passes with no mark due, and none while a mark is due. -/
theorem test_tick_waits_for_marks :
    (after (.tick 1) quiet).clock.periods = 1 ∧ (after (.tick 1) scene).clock.periods = 0 ∧
      (after (.tick 8) quiet).clock.count = 101 := by decide +kernel

/-- For FetchSelectsTheHighestPriority and FetchAndAckRetireNotices: a record's notice selected over
nothing, a session's own over a record's, none, both notice modes, and each kind of target. -/
theorem test_witness_notices :
    (∀ p q args, (asks p q args scene).nextTake = some (p, ⟨q, args⟩)) ∧
    [scene.selectNotice openSession0, scene.selectNotice warnedSession, scene.selectNotice dueSession,
      scene.selectNotice { warnedSession with warnPriority := 1 }, scene.selectNotice lapsedSession] =
      [some (.record 1 warnedRecord { kind := .warning, priority := 5 }),
        some (.session .sessionWarning), none,
        some (.record 2 endedRecord { kind := .ended, priority := 2 }),
        some (.session .sessionLapsed)] ∧
    (scene.namesSession 0 [0, 0, 5] 0 openSession0 ∧ openSession0.noticeMode = .fetchRetires ∧
      scene.namesSession 2 [3, 0, 8] 3 dueSession) ∧
    (scene.namesSession 0 [1, 0, 6, 1, 2, 0, 3] 1 warnedSession ∧
      warnedSession.noticeMode = .ackRequired ∧ argByte [1, 0, 6, 1, 2, 0, 3] 3 = 1 ∧
      scene.namesLease [1, 0, 6, 1, 2, 0, 3] 4 1 2 endedRecord ∧
      endedRecord.notice = some { kind := .ended, priority := 2 } ∧
      scene.namesLease [1, 0, 6, 1, 127, 0xFF, 0xFF] 4 1 127 waitingRecord ∧
      waitingRecord.notice = none) ∧
    (1 < (argByte [1, 0, 6, 2, 0, 0, 0] 3).toNat ∧ argByte [1, 0, 6, 0, 0, 0, 0] 3 = 0) ∧
    (warnedSession.notice = some .sessionWarning ∧ lapsedSession.notice = some .sessionLapsed ∧
      openSession0.notice = none) := by
  unfold State.namesSession State.namesLease
  exact ⟨fun _ _ _ => asks_next .., by decide +kernel, by decide +kernel, by decide +kernel,
    by decide, by decide⟩

/-- For SetThresholdFormsTheLevelAfresh, SetBusSetsTheSpeed and SetLineConfiguresTheLine: an agent port,
each argument on both sides of its range, and a line that an entry holds and one that none holds. -/
theorem test_witness_settings :
    (∀ p q args, (asks p q args scene).nextTake = some (p, ⟨q, args⟩)) ∧ (3 : PortIx) ≠ 4 ∧
    [(argByte [4, 7] 0).toNat, (argByte [5, 8] 0).toNat, (argByte [4, 7] 1).toNat,
      (argByte [5, 8] 1).toNat] = [4, 5, 7, 8] ∧
    (∀ b ∈ [(0 : Byte), 2, 3, 5, 0xFF], b ≠ 1 ∧ b ≠ 4) ∧
    BusSpeed.khz100.code = 1 ∧ BusSpeed.khz400.code = 4 ∧
    [(argByte [15, 1, 1] 0).toNat, (argByte [16, 2, 2] 0).toNat, (argByte [16, 2, 2] 1).toNat] =
      [15, 16, 2] ∧
    Polarity.activeLow.code = 1 ∧ boolByte true = 1 ∧
    (∀ i e, scene.entry i = some e → ∀ b, e.line = some b → b.line ≠ 15) ∧
    scene.entry 0 = some heldExclusive ∧ heldExclusive.line = some { line := 0, mode := .exclusive } := by
  refine ⟨fun _ _ _ => asks_next .., by decide, by decide, by decide, rfl, rfl, by decide, rfl, rfl, ?_,
    by decide +kernel, rfl⟩
  intro i e he b hb h
  have := everyEntry (s := scene) (P := fun e => (e.line.all fun b => b.line ≠ 15) = true)
    (by decide +kernel) i e he
  rw [hb] at this
  simp [h] at this

/-- For AlertsAreListedAndAcknowledged: start positions 143 and 144, alerts held and not held, slots at
the ends of both ranges, and each reason for BAD_ARG. -/
theorem test_witness_AlertsAreListedAndAcknowledged :
    (∀ p q args, (asks p q args scene).nextTake = some (p, ⟨q, args⟩)) ∧
    [(argByte [143] 0).toNat, (argByte [144] 0).toNat] = [143, 144] ∧
    (argByte [1, 63] 0 = 1 ∧ (argByte [1, 63] 1).toNat = (63 : DirSlot).val ∧
      scene.alerts.held (.fenceFailed 63) = false) ∧
    (argByte [3, 2] 0 = 3 ∧ (argByte [3, 2] 1).toNat = (2 : SessSlot).val ∧
      scene.alerts.held (.sessionLapsed 2) = true) ∧
    (scene.alerts.held (.fenceFailed 2) = true ∧ scene.alerts.held (.generationSpent 2) = false) ∧
    ∀ a ∈ [([0, 0] : List Byte), [4, 0], [3, 16], [1, 64], [2, 64]],
      a.length = 2 ∧ (argByte a 0 = 0 ∨ 3 < (argByte a 0).toNat ∨
        (argByte a 0 = 3 ∧ 15 < (argByte a 1).toNat) ∨ 63 < (argByte a 1).toNat) :=
  ⟨fun _ _ _ => asks_next .., by decide, by decide +kernel, by decide +kernel, by decide +kernel,
    by decide⟩

/-- For DefineResourceFillsTheLowestVacantSlot: each argument on both sides of its range, a known key, a
full directory, a line that another entry holds, and a definition with every binding and one with none. -/
theorem test_witness_DefineResourceFillsTheLowestVacantSlot :
    (∀ args : List Byte, (asks 4 0x21 args scene).nextTake = some (4, ⟨0x21, args⟩)) ∧
    (∀ args ∈ [([0, 0, 0, 0, 0, 9, 0, 1, 0, 7, 1, 15, 1] : List Byte),
        [0, 0, 0, 55, 0, 0, 0, 1, 0, 7, 1, 15, 1], [0, 0, 0, 55, 0, 9, 0, 1, 0, 8, 1, 15, 1],
        [0, 0, 0, 55, 0, 9, 0, 1, 0, 7, 2, 15, 1], [0, 0, 0, 55, 0, 9, 0, 1, 0, 7, 8, 15, 1],
        [0, 0, 0, 55, 0, 9, 0, 1, 0, 7, 1, 16, 1], [0, 0, 0, 55, 0, 9, 0, 1, 0, 7, 1, 15, 2]],
      argWord args 0 = 0 ∨ argHalf args 4 = 0 ∨ 7 < (argByte args 9).toNat ∨
        scene.profileByteBad (argByte args 10) ∨ lineBytesBad (argByte args 11) (argByte args 12)) ∧
    (∀ args ∈ [([0, 0, 0, 55, 0, 9, 0, 1, 0, 7, 1, 15, 1] : List Byte),
        [0, 0, 0, 55, 0, 9, 0, 1, 0, 7, 0xFF, 0xFF, 2]],
      ¬ (argWord args 0 = 0 ∨ argHalf args 4 = 0 ∨ 7 < (argByte args 9).toNat ∨
        scene.profileByteBad (argByte args 10) ∨ lineBytesBad (argByte args 11) (argByte args 12))) ∧
    (∀ i e, scene.entry i = some e → e.key ≠ 55) ∧
    scene.entry 1 = some (freeEntry 8) ∧ (∀ i, full.entry i ≠ none) ∧
    isLowest (fun j => scene.entry j = none) 6 ∧
    spellsProfile 1 (some 1) ∧ spellsProfile 0xFF none ∧
    spellsLine 15 1 (some { line := 15, mode := .exclusive }) ∧ spellsLine 0xFF 2 none := by
  unfold State.profileByteBad lineBytesBad isLowest
  refine ⟨fun _ => asks_next .., by decide +kernel, by decide +kernel,
    everyEntry (by decide +kernel), by decide +kernel, by decide +kernel, by decide +kernel,
    .inr ⟨by decide, 1, rfl, rfl⟩, .inl ⟨rfl, rfl⟩, .inr ⟨by decide, _, rfl, rfl, rfl⟩, .inl ⟨rfl, rfl⟩⟩

/-- For the lines of DEFINE and AMEND RESOURCE: line 0 is another entry's, and its own entry's. -/
theorem test_witness_lineByteTaken :
    scene.lineByteTaken none 0 ∧ scene.lineByteTaken (some 1) 0 ∧ ¬ scene.lineByteTaken (some 0) 0 := by
  have held : scene.entry 0 = some heldExclusive := by rfl
  refine ⟨⟨by decide, 0, heldExclusive, _, by decide, held, rfl, rfl⟩,
    ⟨by decide, 0, heldExclusive, _, by decide, held, rfl, rfl⟩, ?_⟩
  rintro ⟨_, j, f, b, hj, hf, hb, _⟩
  have : ∀ j : DirSlot, j ≠ 0 → (scene.entry j).all (fun f => f.line.isNone) = true := by
    decide +kernel
  have := this j (fun h => hj (by rw [h]))
  rw [hf] at this
  simp [hb] at this

/-- For AmendResourceChangesTheNamedFields and DeleteResourceVacatesAnUnusedSlot: a FREE entry and a held
one, no field named and all six, each field out of range and the reserved bits, and an entry that a
record names and one that none names. -/
theorem test_witness_directory :
    (∀ p q args, (asks p q args scene).nextTake = some (p, ⟨q, args⟩)) ∧
    scene.findKey 8 = some (1, freeEntry 8) ∧ scene.findKey 7 = some (0, heldExclusive) ∧
    (argByte [0, 0, 0, 8, 0] 4 = 0 ∧ ∀ k < 6, (argByte [0, 0, 0, 8, 0x3F] 4).getLsbD k = true) ∧
    (argByte [0, 0, 0, 8, 0x40] 4).getLsbD 6 = true ∧ (argByte [0, 0, 0, 8, 0x80] 4).getLsbD 7 = true ∧
    scene.profileByteBad 2 ∧ ¬ scene.profileByteBad 1 ∧ ¬ scene.profileByteBad 0xFF ∧
    lineBytesBad 16 0 ∧ ¬ lineBytesBad 15 1 ∧ ¬ lineBytesBad 0xFF 2 ∧
    scene.record 2 = some endedRecord ∧ endedRecord.resource = 1 ∧
    (scene.findKey 99 = some (63, freeEntry 99) ∧
      ∀ l, (scene.record l).all (fun r => r.resource ≠ 63) = true) := by
  unfold State.profileByteBad lineBytesBad
  refine ⟨fun _ _ _ => asks_next .., by decide +kernel, by decide +kernel, by decide, by decide,
    by decide, by decide +kernel, by decide +kernel, by decide +kernel, by decide, by decide,
    by decide, by decide +kernel, rfl, by decide +kernel⟩

/-- For ForceRevokeRevokesTheLiveRecords and ClearFenceAcceptsOrRetries: entries with no holder, one and
two; actions 0, 1 and 2; an entry that is FENCE_FAILED, with a valid profile and with none, and one that
is not. -/
theorem test_witness_fencing :
    (∀ p q args, (asks p q args scene).nextTake = some (p, ⟨q, args⟩)) ∧
    [scene.findKey 8, scene.findKey 7, scene.findKey 10, scene.findKey 9] =
      [some (1, freeEntry 8), some (0, heldExclusive), some (3, heldShared), some (2, fenceFailed)] ∧
    ((freeEntry 8).holders = 0 ∧ heldExclusive.holders ≠ 0 ∧ heldShared.holders = 2) ∧
    scene.liveOn 3 = [1, 3] ∧
    [(argByte [0, 0, 0, 9, 0] 4).toNat, (argByte [0, 0, 0, 9, 1] 4).toNat,
      (argByte [0, 0, 0, 9, 2] 4).toNat] = [0, 1, 2] ∧
    ((freeEntry 8).state ≠ .fenceFailed ∧ fenceFailed.state = .fenceFailed ∧
      fenceFailed.profile = some 0 ∧ scene.profiles.get 0 = some profile0) ∧
    (scene.setEntry 2 (some { fenceFailed with profile := none })).findKey 9 =
      some (2, { fenceFailed with profile := none }) :=
  ⟨fun _ _ _ => asks_next .., by decide +kernel, by decide, by decide +kernel, by decide,
    by decide +kernel, by decide +kernel⟩

/-- The job of the scene, QUEUED on an idle bus. -/
def waiting : State := { scene with fenceQueue := [{ job with state := .queued }], bus := .reset }

/-- For HeadJobStartsOnAnIdleBus: a job to start with the lines high and with either low; nothing to
start; the last attempt and the one before; and a job of each payload form. -/
theorem test_witness_HeadJobStartsOnAnIdleBus :
    (waiting.fenceQueue = [{ job with state := .queued }] ∧ waiting.bus.state = .idle) ∧
    (high.escl = true ∧ high.esda = true) ∧
    (∀ q ∈ [({ escl := true, esda := false } : BusLines), { escl := false, esda := true }],
      ¬ (q.escl = true ∧ q.esda = true)) ∧
    (scene.bus.state ≠ .idle ∧ State.reset.fenceQueue = [] ∧ job.state = .inFlight) ∧
    (job.attempts < 1 + job.profile.retries.val ∧
      1 + job.profile.retries.val ≤ ({ job with attempts := 2 } : FenceJob).attempts) ∧
    (scene.entry job.resource = some fencing ∧ fencing.state = .fencing) ∧
    (profile0.verify = false ∧ profile0.form = .generation ∧ profile1.verify = true ∧
      profile1.form = .fixed) := by decide +kernel

/-- The scene in recovery from its attempt. -/
def recovering : State := { scene with bus := { scene.bus with state := .recovery } }

/-- For SuccessFreesTheEntry, FailureOnTheWireFailsTheHeadJob and StallsRecoverAndAbandonedAttemptsEnd:
an attempt in transfer at each place of its sequence, abandoned or not, with the kinds of item there; the
fixed value and another read back; and recovery. -/
theorem test_witness_bus :
    (∀ k < 11, ∀ abandoned, (sceneAt k abandoned).bus.state = .transfer ∧
      (sceneAt k abandoned).bus.attempt =
        some { job.attempt with position := k, abandoned := abandoned } ∧
      (sceneAt k abandoned).fenceQueue = [job]) ∧
    job.attempt.sequence = [.start, .write 0xEE, .write 0x20, .write 0xA0, .repeatedStart, .write 0xEE,
      .write 0x20, .repeatedStart, .write 0xEF, .read, .stop] ∧
    (scene.entry job.resource = some fencing ∧ fencing.state = .fencing) ∧
    (job.attempt.verify = true ∧ (0xA1 : Byte) ≠ job.attempt.expected ∧ profile0.verify = false) ∧
    recovering.bus.state = .recovery := by decide +kernel

/-- For SetProfileWritesTheTable: each argument on both sides of its range, a profile that an entry names
and one that none names. -/
theorem test_witness_SetProfileWritesTheTable :
    (∀ p q args, (asks p q args scene).nextTake = some (p, ⟨q, args⟩)) ∧
    (∀ a ∈ [([7, 1, 0x07, 0, 2, 0, 0, 3] : List Byte), [7, 1, 0x78, 0, 2, 0, 0, 3],
        [7, 1, 0x08, 0, 3, 0, 0, 3], [7, 1, 0x08, 0, 0, 0, 2, 3], [7, 1, 0x08, 0, 1, 0, 1, 3],
        [7, 1, 0x08, 0, 2, 0, 0, 4]],
      (argByte a 2).toNat < 0x08 ∨ 0x77 < (argByte a 2).toNat ∨ 2 < (argByte a 4).toNat ∨
        1 < (argByte a 6).toNat ∨ (argByte a 6 = 1 ∧ argByte a 4 ≠ 0) ∨ 3 < (argByte a 7).toNat) ∧
    (∀ a ∈ [([7, 1, 0x08, 0, 2, 0, 0, 3] : List Byte), [7, 1, 0x77, 0, 0, 0xFF, 1, 0]],
      ¬ ((argByte a 2).toNat < 0x08 ∨ 0x77 < (argByte a 2).toNat ∨ 2 < (argByte a 4).toNat ∨
        1 < (argByte a 6).toNat ∨ (argByte a 6 = 1 ∧ argByte a 4 ≠ 0) ∨ 3 < (argByte a 7).toNat)) ∧
    [(argByte [8, 2] 0).toNat, (argByte [8, 2] 1).toNat, (argByte [7, 1] 0).toNat] = [8, 2, 7] ∧
    (PayloadForm.fixedThenGeneration.code = 2 ∧ boolByte false = 0) ∧
    (∃ i e, scene.entry i = some e ∧ e.profile = some 0) ∧
    (∀ i e, scene.entry i = some e → e.profile ≠ some 7) :=
  ⟨fun _ _ _ => asks_next .., by decide, by decide, by decide, ⟨rfl, rfl⟩,
    ⟨0, heldExclusive, rfl, rfl⟩, everyEntry (by decide +kernel)⟩

/-- For WarmResetSettlesEveryBlock: entries that are fenced and that are not, a generation at its last
value, an attempt on the bus and none. -/
theorem test_witness_WarmResetSettlesEveryBlock :
    (∀ s, (asks 4 0x3F [] s).nextTake = some (4, ⟨0x3F, []⟩)) ∧
    scene.entry 6 = none ∧
    (scene.entry 0 = some heldExclusive ∧ heldExclusive.state = .heldExclusive ∧
      heldExclusive.profile = some 0 ∧ scene.profiles.get 0 = some profile0) ∧
    (scene.entry 3 = some heldShared ∧ heldShared.profile = none) ∧
    (scene.bus.state = .transfer ∧ scene.bus.attempt = some job.attempt ∧
      State.reset.bus.state = .idle) :=
  ⟨fun _ => asks_next .., by decide +kernel, by decide +kernel, by decide +kernel, by decide +kernel⟩

/-- For FramesSurviveTheWire: no argument and 24, and a CRC byte that is not the frame's. -/
theorem test_witness_FramesSurviveTheWire :
    heldFrame.args.length ≤ 24 ∧ (⟨0x04, List.replicate 24 1⟩ : Frame).args.length ≤ 24 ∧
    (0x6B : Byte) ≠ heldFrame.bytes.getLastD 0 := by decide +kernel

/-! ### A lawful state -/

def sceneEntries : List (DirSlot × Entry) :=
  [(0, heldExclusive), (1, freeEntry 8), (2, fenceFailed), (3, heldShared), (4, spentEntry), (5, fencing),
    (63, freeEntry 99)]

def sceneRecords : List (LeaseSlot × LeaseRecord) :=
  [(0, activeRecord), (1, warnedRecord), (2, endedRecord), (3, dueRecord), (127, waitingRecord)]

def sceneSessions : List (SessSlot × Session) :=
  [(0, openSession0), (1, warnedSession), (2, lapsedSession), (3, dueSession), (15, expiredSession)]

theorem listed {n : Nat} {α : Type} [DecidableEq α] {f : Fin n → Option α} {known : List (Fin n × α)}
    (all : ∀ i, (f i).all (fun a => decide ((i, a) ∈ known)) = true) {i : Fin n} {a : α}
    (h : f i = some a) : (i, a) ∈ known := by
  have := all i
  rw [h] at this
  exact of_decide_eq_true this

theorem scene_entries {i : DirSlot} {e : Entry} (h : scene.entry i = some e) : (i, e) ∈ sceneEntries :=
  listed (by decide +kernel) h

theorem scene_records {l : LeaseSlot} {r : LeaseRecord} (h : scene.record l = some r) :
    (l, r) ∈ sceneRecords :=
  listed (by decide +kernel) h

theorem scene_sessions {i : SessSlot} {x : Session} (h : scene.session i = some x) :
    (i, x) ∈ sceneSessions :=
  listed (by decide +kernel) h

theorem scene_directoryLaws : scene.directoryLaws := by
  have keys : ∀ a ∈ sceneEntries, ∀ b ∈ sceneEntries, a.2.key = b.2.key → a.1 = b.1 := by decide +kernel
  have lines : ∀ a ∈ sceneEntries, a.2.line.isSome = true → a.1 = 0 := by decide +kernel
  have profiles : ∀ a ∈ sceneEntries, a.2.profile.all (fun n => (scene.profiles.get n).isSome) = true := by
    decide +kernel
  refine ⟨fun i e h => ⟨?_, ?_⟩, fun i j e f hi hj => keys _ (scene_entries hi) _ (scene_entries hj),
    fun i j e f b c hi hj hb hc _ => (lines _ (scene_entries hi) (by simp [hb])).trans
      (lines _ (scene_entries hj) (by simp [hc])).symm⟩
  · have hm := scene_entries h
    simp only [sceneEntries, List.mem_cons, Prod.mk.injEq, List.not_mem_nil, or_false] at hm
    rcases hm with ⟨-, rfl⟩ | ⟨-, rfl⟩ | ⟨-, rfl⟩ | ⟨-, rfl⟩ | ⟨-, rfl⟩ | ⟨-, rfl⟩ | ⟨-, rfl⟩ <;>
      simp [Entry.shaped, heldExclusive, freeEntry, fenceFailed, heldShared, spentEntry, fencing]
  · have set : ∀ a ∈ sceneEntries, a.2.key ≠ 0 ∧ a.2.current.term ≠ 0 ∧ a.2.staged = none := by
      decide +kernel
    obtain ⟨hk, ht, hs⟩ := set _ (scene_entries h)
    refine ⟨hk, ht, fun q hq => ?_, fun n hn => ?_⟩
    · exact absurd (hs.symm.trans hq) (by simp)
    · have valid : e.profile.all (fun n => (scene.profiles.get n).isSome) = true :=
        profiles _ (scene_entries h)
      rw [hn] at valid
      exact Option.isSome_iff_ne_none.1 valid

theorem scene_ownershipLaws : scene.ownershipLaws := by
  have owned : ∀ a ∈ sceneRecords, ∃ x ∈ scene.session a.2.session,
      x.state ≠ .lapsed ∧ a.1 ∈ x.records := by decide +kernel
  have owns : ∀ a ∈ sceneSessions, a.2.records.Nodup ∧ a.2.records.length ≤ a.2.quota ∧
      ∀ l ∈ a.2.records, ∃ r ∈ scene.record l, r.session = a.1 := by decide +kernel
  refine ⟨fun l r h => owned _ (scene_records h), fun i x h => ⟨?_, owns _ (scene_sessions h)⟩⟩
  have hm := scene_sessions h
  simp only [sceneSessions, List.mem_cons, Prod.mk.injEq, List.not_mem_nil, or_false] at hm
  rcases hm with ⟨-, rfl⟩ | ⟨-, rfl⟩ | ⟨-, rfl⟩ | ⟨-, rfl⟩ | ⟨-, rfl⟩ <;>
    simp [Session.shaped, openSession0, warnedSession, lapsedSession, dueSession, expiredSession,
      sessionOf]

theorem scene_markLaws : scene.markLaws := by
  have near : ∀ {marks : List (Option Word)} {m : Word},
      (marks.all fun m => m.all fun w => (w - scene.clock.count).toNat ≤ 65535) = true →
      some m ∈ marks → (m - scene.clock.count).toNat ≤ 65535 := by
    intro marks m all h
    exact of_decide_eq_true (List.all_eq_true.1 all _ h)
  have leases : ∀ l, ((scene.lease l).marks.all fun m => m.all fun w =>
      (w - scene.clock.count).toNat ≤ 65535) = true := by decide +kernel
  have sessions : ∀ i, ((scene.sessionCell i).marks.all fun m => m.all fun w =>
      (w - scene.clock.count).toNat ≤ 65535) = true := by decide +kernel
  exact ⟨fun l m h => near (leases l) h, fun i m h => near (sessions i) h⟩

theorem scene_recordLaws : scene.recordLaws := by
  have names : ∀ a ∈ sceneRecords, ∃ e ∈ scene.entry a.2.resource,
      match a.2.state, a.2.mode with
      | .waiting, _ => a.1 ∈ e.queue
      | .ended, _ => True
      | _, .shared => e.state = .heldShared
      | _, .exclusive => e.state = .heldExclusive ∧ e.exclusiveHolder = some a.1 := by
    simp only [sceneRecords, List.mem_cons, List.not_mem_nil, or_false]
    rintro a (rfl | rfl | rfl | rfl | rfl)
    · exact ⟨heldExclusive, rfl, rfl, rfl⟩
    · exact ⟨heldShared, rfl, rfl⟩
    · exact ⟨freeEntry 8, rfl, trivial⟩
    · exact ⟨heldShared, rfl, rfl⟩
    · exact ⟨heldExclusive, rfl, List.mem_cons_self⟩
  have entries : ∀ a ∈ sceneEntries, a.2.queue.Nodup ∧ a.2.holders = (scene.liveOn a.1).length ∧
      a.2.generation ≠ 0 ∧ (a.2.state = .heldExclusive → a.2.generation ≠ 0xFFFFFFFF) ∧
      (∀ l ∈ a.2.queue, ∃ r ∈ scene.record l, r.state = .waiting ∧ r.resource = a.1) ∧
      (a.2.state = .heldShared → a.2.queue = []) := by decide +kernel
  have once : ∀ a ∈ sceneRecords, ∀ b ∈ sceneRecords, a.2.state ≠ .ended → b.2.state ≠ .ended →
      a.2.session = b.2.session → a.2.resource = b.2.resource → a.1 = b.1 := by decide +kernel
  refine ⟨fun l r h => ⟨?_, names _ (scene_records h)⟩, fun i e h => ?_,
    fun l k r q hr hq => once _ (scene_records hr) _ (scene_records hq)⟩
  · have hm := scene_records h
    simp only [sceneRecords, List.mem_cons, Prod.mk.injEq, List.not_mem_nil, or_false] at hm
    rcases hm with ⟨-, rfl⟩ | ⟨-, rfl⟩ | ⟨-, rfl⟩ | ⟨-, rfl⟩ | ⟨-, rfl⟩ <;>
      simp [LeaseRecord.shaped, activeRecord, warnedRecord, endedRecord, dueRecord, waitingRecord,
        recordOf]
  · obtain ⟨h1, h2, h3, h4, h5, h6⟩ := entries _ (scene_entries h)
    exact ⟨h1, h2, h3, h4, h5, fun hs l r hl _ => by
      have hq : e.queue = [] := h6 hs
      simp [hq] at hl⟩

theorem scene_fenceLaws : scene.fenceLaws := by
  have fenced : ∀ i, i ∈ scene.fenceQueue.map FenceJob.resource ↔
      ∃ e ∈ scene.entry i, e.state = .fencing := by decide +kernel
  refine ⟨by decide +kernel, fenced, ?_, ?_, ⟨job.attempt, rfl, by decide, job, rfl, rfl, rfl⟩⟩
  · intro j hj
    have : j = job := by simpa [scene] using hj
    rw [this]
    exact ⟨by decide, by decide⟩
  · intro j hj
    simp [scene] at hj

/-- The scene keeps all the laws. -/
theorem scene_lawful : scene.lawful :=
  ⟨scene_directoryLaws, scene_ownershipLaws, scene_markLaws, scene_recordLaws, scene_fenceLaws⟩

/-- For StepsKeepTheDirectoryLaws, StepsKeepOwnershipAndMarks, StepsKeepTheRecordLaws,
StepsKeepTheFenceLaws and GenerationsNeverDecrease: the scene, and a step from it in which a record is
given an EXCLUSIVE token. -/
theorem test_witness_laws :
    let s := { asks 0 0x04 [1, 0, 6, 0, 0, 0, 8, 1, 0, 0] scene with pending := [.acquire] }
    s.lawful ∧ (∃ t, step s = .next t) ∧
    let t := after .acquire { s with pending := [] }
    step s = .next t ∧ s.entry 1 = some (freeEntry 8) ∧ s.record 4 = none ∧
      (t.record 4).map (fun r => (r.mode, r.token, r.resource)) = some (.exclusive, some 2, 1) :=
  ⟨scene_lawful, ⟨_, rfl⟩, rfl, by decide +kernel, by decide +kernel, by decide +kernel⟩

/-- For GrantLinesFollowTheirEntries and the last clause of SetLineConfiguresTheLine. -/
theorem test_witness_grantLines :
    (asks 4 0x34 [0, 1, 1] scene).directoryLaws ∧
      (asks 4 0x34 [0, 1, 1] scene).entry 0 = some heldExclusive ∧
      heldExclusive.line = some { line := 0, mode := .exclusive } :=
  ⟨scene_directoryLaws, by decide +kernel, rfl⟩

end Sys2Proof.Tests
end

section
/-! SUPPORT. What a step can do to the directory, the lease table and the profiles, said once: every law
of these tables is then a case analysis over the changes below. -/

namespace Sys2Proof.Machine

/-! ### The tables of the directory and of the records -/

/-- The tables of which the laws of the directory and of the records speak. -/
def State.tables (s : State) :
    Vector (Option Entry) 64 × Vector LeaseCell 128 × Vector (Option Profile) 8 :=
  (s.directory, s.leases, s.profiles)

theorem State.tables_eq_iff (s t : State) : t.tables = s.tables ↔
    t.directory = s.directory ∧ t.leases = s.leases ∧ t.profiles = s.profiles := by
  simp only [State.tables, Prod.mk.injEq]

theorem State.entry_congr {s t : State} (h : t.tables = s.tables) (i : DirSlot) :
    t.entry i = s.entry i :=
  congrArg (·.get i) ((s.tables_eq_iff t).1 h).1

theorem State.record_congr {s t : State} (h : t.tables = s.tables) (l : LeaseSlot) :
    t.record l = s.record l :=
  congrArg (fun v => (Vector.get v l).record) ((s.tables_eq_iff t).1 h).2.1

theorem State.profiles_congr {s t : State} (h : t.tables = s.tables) : t.profiles = s.profiles :=
  ((s.tables_eq_iff t).1 h).2.2

theorem State.setEntry_congr {s t : State} (h : t.tables = s.tables) (i : DirSlot) (e : Option Entry) :
    (t.setEntry i e).tables = (s.setEntry i e).tables := by
  obtain ⟨hd, hl, hp⟩ := (s.tables_eq_iff t).1 h
  simp only [State.tables, State.setEntry, hd, hl, hp]

@[simp] theorem State.setEntry_entry (s : State) (i : DirSlot) : s.setEntry i (s.entry i) = s := by
  unfold State.setEntry State.entry
  rw [put_get]

@[simp] theorem State.tables_respond (s : State) (p : PortIx) (r : Reply) :
    (s.respond p r).tables = s.tables := rfl

@[simp] theorem State.tables_setSession (s : State) (i : SessSlot) (x : Option Session) :
    (s.setSession i x).tables = s.tables := rfl

@[simp] theorem State.tables_setSessionCell (s : State) (i : SessSlot) (c : SessionCell) :
    (s.setSessionCell i c).tables = s.tables := rfl

@[simp] theorem State.tables_setPort (s : State) (p : PortIx) (x : Port) :
    (s.setPort p x).tables = s.tables := rfl

@[simp] theorem State.tables_raiseLapsed (s : State) (i : SessSlot) (a : LapseAlert) :
    (s.raiseLapsed i a).tables = s.tables := rfl

@[simp] theorem State.tables_modifySession (s : State) (i : SessSlot) (f : Session → Session) :
    (s.modifySession i f).tables = s.tables := by
  unfold State.modifySession; split <;> rfl

@[simp] theorem State.tables_retireSession (s : State) (i : SessSlot) :
    (s.retireSession i).tables = s.tables := by
  unfold State.retireSession
  split
  · rfl
  · split <;> rfl

/-! ### Attempts that fail (R112, R127) -/

/-- What the start or the failure of an attempt does to the tables: at most one FENCING entry goes
FENCE_FAILED. -/
inductive State.Fails (s t : State) : Prop
  | kept (h : t.tables = s.tables)
  | failed (i : DirSlot) (e : Entry) (he : s.entry i = some e) (hs : e.state = .fencing)
      (h : t.tables = (s.setEntry i (some { e with state := .fenceFailed })).tables)

theorem State.Fails.of_tables {s u t : State} (hu : u.tables = s.tables) (h : u.Fails t) :
    s.Fails t := by
  cases h with
  | kept h => exact .kept (h.trans hu)
  | failed i e he hs h =>
    exact .failed i e (by rw [← he, State.entry_congr hu]) hs (h.trans (State.setEntry_congr hu _ _))

theorem State.fails_failHead (s : State) : s.Fails s.failHead := by
  unfold State.failHead
  split
  · exact .kept rfl
  · next j rest _ =>
    split
    · exact .kept rfl
    · unfold State.modifyEntry
      split
      · exact .kept rfl
      · next e he =>
        dsimp only
        split
        · next hs => exact .failed j.resource e he hs rfl
        · refine .kept ?_
          have h := ({ s with fenceQueue := rest } : State).setEntry_entry j.resource
          rw [he] at h
          rw [h]
          rfl

theorem State.fails_startAttempt (s : State) (lines : BusLines) : s.Fails (s.startAttempt lines) := by
  unfold State.startAttempt
  split
  · split
    · dsimp only
      split
      · exact .kept rfl
      · exact State.Fails.of_tables (by rfl) (State.fails_failHead _)
    · exact .kept rfl
  · exact .kept rfl

theorem State.fails_appendJob (s : State) (j : FenceJob) (lines : BusLines) :
    s.Fails (s.appendJob j lines) :=
  .of_tables (by rfl) (State.fails_startAttempt _ lines)

/-! ### The changes -/

/-- What one command or event can do to the tables, by the operation over them that it runs. -/
inductive State.Change (s : State) : State → Prop
  | nothing : s.Change s
  | spentRefusal (d : DirSlot) : s.Change (s.reportSpent d)
  | grantedAtOnce (i : SessSlot) (x : Session) (d : DirSlot) (e : Entry) (mode : LeaseMode) (l : LeaseSlot)
      (hx : s.session i = some x) (he : s.entry d = some e) (hc : s.hasClaim x d = false)
      (hs : ¬ (mode = .exclusive ∧ e.spent = true)) (hl : s.record l = none)
      (hg : e.grantable mode = true) : s.Change (s.grantAtOnce i d e mode l).state
  | enqueued (i : SessSlot) (x : Session) (d : DirSlot) (e : Entry) (mode : LeaseMode) (limit : Half)
      (l : LeaseSlot) (hx : s.session i = some x) (he : s.entry d = some e)
      (hc : s.hasClaim x d = false) (hs : ¬ (mode = .exclusive ∧ e.spent = true))
      (hl : s.record l = none) (hg : e.grantable mode = false) :
      s.Change (s.enqueue i d e mode limit l).state
  | freed (l : LeaseSlot) : s.Change (s.freeRecord l)
  | freedAll (records : List LeaseSlot) : s.Change (s.releaseAll records)
  | lapsed (i : SessSlot) (x : Session) (cause : LapseCause) (lines : BusLines) :
      s.Change (s.lapse i x cause lines)
  | renewed (l : LeaseSlot) (r : LeaseRecord) (p : Policy) (hr : s.record l = some r)
      (hs : r.state = .active ∨ r.state = .warned) :
      s.Change (s.setRecord l (some (r.renewed p s.clock.count)))
  | retired (l : LeaseSlot) : s.Change (s.retireRecord l)
  | warned (l : LeaseSlot) (r : LeaseRecord) (p : Priority) (hr : s.record l = some r)
      (hs : r.state = .active) : s.Change (s.setRecord l (some (r.warnedWith p)))
  | revoked (l : LeaseSlot) (r : LeaseRecord) (cause : EndCause) (lines : BusLines)
      (hr : s.record l = some r) (hl : r.live = true) : s.Change (s.revokeEnding l cause lines)
  | forced (i : DirSlot) (lines : BusLines) :
      s.Change ((s.liveRecordsOf i).foldl (fun t l => t.revokeEnding l .forced lines) s)
  | waitEnded (l : LeaseSlot) (r : LeaseRecord) (hr : s.record l = some r) (hs : r.state = .waiting) :
      s.Change ((s.endRecord l .waitExpired).leaveQueue r.resource l)
  | defined (i : DirSlot) (a : DefineArgs) (hi : s.entry i = none) (hk : a.key ≠ 0)
      (ht : a.policy.term ≠ 0) (hp : s.profileUsable a.profile = true) (hf : s.findKey a.key = none)
      (hl : s.lineTaken none a.line = false) : s.Change (s.setEntry i (some (newEntry a)))
  | amended (i : DirSlot) (e : Entry) (a : AmendArgs) (he : s.entry i = some e)
      (ht : ∀ t, a.term = some t → t ≠ 0) (hp : s.profileUsable (a.profile.getD none) = true)
      (hl : s.lineTaken (some i) (a.line.getD none) = false) :
      s.Change (s.setEntry i (some (e.amended a)))
  | deleted (i : DirSlot) (e : Entry) (he : s.entry i = some e) (hs : e.state = .free)
      (hn : s.namedByRecord i = false) : s.Change (s.setEntry i none)
  | accepted (i : DirSlot) (e : Entry) (he : s.entry i = some e) (hs : e.state = .fenceFailed) :
      s.Change ((s.setEntry i (some e.enterFree)).grantCheck i)
  | retried (i : DirSlot) (e : Entry) (t : State) (he : s.entry i = some e) (hs : e.state = .fenceFailed)
      (h : (s.setEntry i (some e.enterFencing)).Fails t) : s.Change t
  | profileSet (n : ProfileNo) (p : Option Profile) (hp : p = none → s.profileNamed n = false) :
      s.Change { s with profiles := put s.profiles n p }
  | busFailed (u t : State) (hu : s.Fails u) (ht : u.Fails t) : s.Change t
  | busSettled (u t : State) (hu : u.tables = s.tables) (ht : u.settleHead.Fails t) : s.Change t
  | warmReset (t : State) (h : s.warmReset.Fails t) : s.Change t
  | coldReset (low adr : Bool) : s.Change (s.coldReset low adr)

/-- A change of the tables, whatever else changes with it. -/
def State.Changes (s t : State) : Prop := ∃ v, s.Change v ∧ t.tables = v.tables

theorem State.Change.changes {s t : State} (h : s.Change t) : s.Changes t := ⟨t, h, rfl⟩

theorem State.Changes.of_tables {s t : State} (h : t.tables = s.tables) : s.Changes t :=
  ⟨s, .nothing, h⟩

theorem State.changes_refuse (s : State) (st : Status) : s.Changes (s.refuse st).state :=
  State.Change.nothing.changes

/-! ### The bodies of the commands -/

theorem State.session_of_checkSession {s : State} {p : PortIx} {lapsedToo : Bool} {i : SessSlot}
    {tag : Half} {x : Session} (h : s.checkSession p lapsedToo i tag = .ok x) :
    s.session i = some x := by
  unfold State.checkSession at h
  split at h
  · cases h
  · next y hy =>
    split_ifs at h
    cases h
    exact hy

theorem State.record_of_checkHandles {s : State} {p : PortIx} {lapsedToo : Bool} {h : SessionHandle}
    {k : LeaseHandle} {i : SessSlot} {x : Session} {l : LeaseSlot} {r : LeaseRecord}
    (hk : s.checkHandles p lapsedToo h k = .ok (i, x, l, r)) : s.record l = some r := by
  unfold State.checkHandles at hk
  split at hk
  · split at hk
    · cases hk
    · split at hk
      · cases hk
      · next q hq =>
        cases hk
        unfold State.checkLease at hq
        split at hq
        · cases hq
        · next hr =>
          split_ifs at hq
          cases hq
          exact hr
  · cases hk

theorem openSession_changes (p : PortIx) (args : List Byte) (s : State) :
    s.Changes (openSession p args s).state := by
  unfold openSession
  split
  · exact s.changes_refuse _
  · split
    · exact s.changes_refuse _
    · exact .of_tables rfl

theorem keepalive_changes (p : PortIx) (args : List Byte) (s : State) :
    s.Changes (keepalive p args s).state := by
  unfold keepalive
  split
  · exact s.changes_refuse _
  · exact .of_tables rfl

theorem closeSession_changes (p : PortIx) (args : List Byte) (s : State) :
    s.Changes (closeSession p args s).state := by
  unfold closeSession
  split
  · exact s.changes_refuse _
  · split
    · exact .of_tables rfl
    · exact ⟨_, .freedAll _, rfl⟩

theorem acquire_changes (p : PortIx) (args : List Byte) (s : State) :
    s.Changes (acquire p args s).state := by
  unfold acquire
  dsimp only
  split
  · next i mode _ _ =>
    split
    · exact s.changes_refuse _
    · next x hx =>
      have hx : s.session i = some x := State.session_of_checkSession hx
      split
      · exact s.changes_refuse _
      · next d e hf =>
        have he := (State.findKey_some hf).1
        split
        · exact s.changes_refuse _
        · next hc =>
          split
          · exact (State.Change.spentRefusal d).changes
          · next hs =>
            split
            · exact s.changes_refuse _
            · split
              · exact s.changes_refuse _
              · next l hl =>
                have hl : s.record l = none := by simpa using (lowest_some_iff.1 hl).1
                split
                · next hg =>
                  exact (State.Change.grantedAtOnce i x d e mode l hx he (by simpa using hc) hs hl
                    hg).changes
                · next hg =>
                  split
                  · exact s.changes_refuse _
                  · exact (State.Change.enqueued i x d e mode _ l hx he (by simpa using hc) hs hl
                      (by simpa using hg)).changes
  · exact s.changes_refuse _

theorem release_changes (p : PortIx) (args : List Byte) (s : State) :
    s.Changes (release p args s).state := by
  unfold release
  split
  · exact s.changes_refuse _
  · exact (State.Change.freed _).changes

theorem renew_changes (p : PortIx) (args : List Byte) (s : State) :
    s.Changes (renew p args s).state := by
  unfold renew
  split
  · exact s.changes_refuse _
  · next l r hk =>
    have hr := State.record_of_checkHandles hk
    split
    · exact s.changes_refuse _
    · exact s.changes_refuse _
    · next hw he =>
      have hs : r.state = .active ∨ r.state = .warned := by
        cases hs : r.state <;> simp_all
      split
      · exact s.changes_refuse _
      · next e _ =>
        split
        · exact s.changes_refuse _
        · exact (State.Change.renewed l r e.current hr hs).changes

theorem State.changes_retire (s : State) (i : SessSlot) (n : Selected) : s.Changes (s.retire i n) := by
  cases n with
  | session k => exact .of_tables (s.tables_retireSession i)
  | record l r n => exact (State.Change.retired l).changes

theorem fetchNotice_changes (p : PortIx) (args : List Byte) (s : State) :
    s.Changes (fetchNotice p args s).state := by
  unfold fetchNotice
  split
  · exact s.changes_refuse _
  · next i x _ =>
    split
    · exact s.changes_refuse _
    · next n _ =>
      dsimp only
      split
      · exact s.changes_retire i n
      · exact .of_tables rfl

theorem State.changes_acknowledge {s t : State} (h : s.Changes t) (i : SessSlot) (x : Session)
    (kind : Option Byte) : s.Changes (s.acknowledge i x kind t).state := by
  unfold State.acknowledge
  split
  · exact s.changes_refuse _
  · split
    · exact s.changes_refuse _
    · exact h

theorem ackNotice_changes (p : PortIx) (args : List Byte) (s : State) :
    s.Changes (ackNotice p args s).state := by
  unfold ackNotice
  split
  · split
    · exact s.changes_refuse _
    · exact State.changes_acknowledge (State.Change.retired _).changes _ _ _
  · split
    · exact s.changes_refuse _
    · split
      · exact State.changes_acknowledge (.of_tables (s.tables_retireSession _)) _ _ _
      · exact s.changes_refuse _

theorem decodeDefine_some {args : List Byte} {a : DefineArgs} (h : decodeDefine args = some a) :
    a.key ≠ 0 ∧ a.policy.term ≠ 0 := by
  unfold decodeDefine at h
  split at h
  · split_ifs at h with hz
    cases h
    exact not_or.1 hz
  · cases h

theorem defineResource_changes (p : PortIx) (args : List Byte) (s : State) :
    s.Changes (defineResource p args s).state := by
  unfold defineResource
  split
  · exact s.changes_refuse _
  · next a ha =>
    obtain ⟨hk, ht⟩ := decodeDefine_some ha
    split
    · exact s.changes_refuse _
    · next hp =>
      split
      · exact s.changes_refuse _
      · next hf =>
        split
        · exact s.changes_refuse _
        · next i hi =>
          have hi : s.entry i = none := by simpa using (lowest_some_iff.1 hi).1
          split
          · exact s.changes_refuse _
          · next hl =>
            exact (State.Change.defined i a hi hk ht (by simpa using hp) (by simpa using hf)
              (by simpa using hl)).changes

theorem decodeAmend_term {args : List Byte} {a : AmendArgs} (h : decodeAmend args = some a) {t : Half}
    (ht : a.term = some t) : t ≠ 0 := by
  unfold decodeAmend at h
  dsimp only at h
  split at h
  · next term _ _ _ hterm _ _ _ =>
    split at h
    · cases h
    · cases h
      subst ht
      unfold namedField at hterm
      split_ifs at hterm with hb h0
      · simp at hterm
      · simp only [Option.map_some, Option.some.injEq] at hterm
        exact hterm ▸ h0
      · simp at hterm
  · cases h

theorem amendResource_changes (p : PortIx) (args : List Byte) (s : State) :
    s.Changes (amendResource p args s).state := by
  unfold amendResource
  split
  · exact s.changes_refuse _
  · next i e hf =>
    split
    · exact s.changes_refuse _
    · next a ha =>
      split
      · exact s.changes_refuse _
      · next hp =>
        split
        · exact s.changes_refuse _
        · next hl =>
          exact (State.Change.amended i e a (State.findKey_some hf).1 (fun _ => decodeAmend_term ha)
            (by simpa using hp) (by simpa using hl)).changes

theorem deleteResource_changes (p : PortIx) (args : List Byte) (s : State) :
    s.Changes (deleteResource p args s).state := by
  unfold deleteResource
  split
  · exact s.changes_refuse _
  · next i e hf =>
    split
    · exact s.changes_refuse _
    · next hb =>
      obtain ⟨hs, hn⟩ := not_or.1 hb
      exact ⟨_, .deleted i e (State.findKey_some hf).1 (not_not.1 hs) (by simpa using hn), rfl⟩

theorem forceRevoke_changes (lines : BusLines) (p : PortIx) (args : List Byte) (s : State) :
    s.Changes (forceRevoke lines p args s).state := by
  unfold forceRevoke
  split
  · exact s.changes_refuse _
  · split
    · exact s.changes_refuse _
    · exact (State.Change.forced _ lines).changes

theorem clearFenceAccept_changes (p : PortIx) (args : List Byte) (s : State) :
    s.Changes (clearFenceAccept p args s).state := by
  unfold clearFenceAccept
  split
  · exact s.changes_refuse _
  · split
    · exact s.changes_refuse _
    · next i e hf =>
      split
      · exact s.changes_refuse _
      · next hs =>
        exact (State.Change.accepted i e (State.findKey_some hf).1 (not_not.1 hs)).changes

theorem clearFenceRetry_changes (lines : BusLines) (p : PortIx) (args : List Byte) (s : State) :
    s.Changes (clearFenceRetry lines p args s).state := by
  unfold clearFenceRetry
  split
  · exact s.changes_refuse _
  · next i e hf =>
    split
    · exact s.changes_refuse _
    · next hs =>
      split
      · exact s.changes_refuse _
      · exact (State.Change.retried i e _ (State.findKey_some hf).1 (not_not.1 hs)
          (State.fails_appendJob _ _ _)).changes

theorem setProfile_changes (p : PortIx) (args : List Byte) (s : State) :
    s.Changes (setProfile p args s).state := by
  unfold setProfile
  split
  · split
    · exact s.changes_refuse _
    · next q _ => exact (State.Change.profileSet _ (some q) (by simp)).changes
  · next n _ _ =>
    split
    · exact s.changes_refuse _
    · next hn => exact (State.Change.profileSet n none (by simpa using hn)).changes
  · exact s.changes_refuse _

theorem purgeSession_changes (lines : BusLines) (p : PortIx) (args : List Byte) (s : State) :
    s.Changes (purgeSession lines p args s).state := by
  unfold purgeSession
  split
  · exact s.changes_refuse _
  · split
    · exact s.changes_refuse _
    · split
      · exact .of_tables rfl
      · exact ⟨_, .lapsed _ _ .purged lines, rfl⟩

theorem setBus_tables (p : PortIx) (args : List Byte) (s : State) :
    (setBus p args s).state.tables = s.tables := by
  unfold setBus; split <;> rfl

theorem setLine_tables (p : PortIx) (args : List Byte) (s : State) :
    (setLine p args s).state.tables = s.tables := by
  unfold setLine; split <;> rfl

theorem setClock_tables (p : PortIx) (args : List Byte) (s : State) :
    (setClock p args s).state.tables = s.tables := by
  unfold setClock
  split
  · rfl
  · split_ifs <;> rfl

theorem setThreshold_tables (p : PortIx) (args : List Byte) (s : State) :
    (setThreshold p args s).state.tables = s.tables := by
  unfold setThreshold; split <;> rfl

theorem readAlerts_tables (p : PortIx) (args : List Byte) (s : State) :
    (readAlerts p args s).state.tables = s.tables := by
  unfold readAlerts; dsimp only; split_ifs <;> rfl

theorem ackAlert_tables (p : PortIx) (args : List Byte) (s : State) :
    (ackAlert p args s).state.tables = s.tables := by
  unfold ackAlert
  split
  · rfl
  · split_ifs <;> rfl

theorem queryLease_tables (p : PortIx) (args : List Byte) (s : State) :
    (queryLease p args s).state.tables = s.tables := by
  unfold queryLease; split <;> rfl

theorem queryResource_tables (p : PortIx) (args : List Byte) (s : State) :
    (queryResource p args s).state.tables = s.tables := by
  unfold queryResource; split <;> rfl

/-! ### The arbiter -/

theorem checked_changes {management : Bool} {len : Nat} {body : PortIx → List Byte → State → Answer}
    {p : PortIx} {args : List Byte} {s : State} (h : s.Changes (body p args s).state) :
    s.Changes (checked management len body p args s).state := by
  unfold checked
  split
  · exact s.changes_refuse _
  · split
    · exact s.changes_refuse _
    · exact h

theorem State.take_changes {s : State} {row : Frame → Bool}
    {body : PortIx → List Byte → State → Answer} (h : ∀ p args, s.Changes (body p args s).state) :
    s.Changes (s.take row body) := by
  unfold State.take
  split
  · exact .of_tables rfl
  · next p f _ =>
    dsimp only
    split
    · exact h p f.args
    · exact .of_tables rfl

theorem State.command_changes {s : State} {code : Byte} {len : Nat}
    {body : PortIx → List Byte → State → Answer} (h : ∀ p args (s : State), s.Changes (body p args s).state) :
    s.Changes (s.command code len body) :=
  State.take_changes fun p args => checked_changes (h p args s)

theorem State.management_changes {s : State} {code : Byte} {len : Nat}
    {body : PortIx → List Byte → State → Answer} (h : ∀ p args (s : State), s.Changes (body p args s).state) :
    s.Changes (s.management code len body) :=
  State.take_changes fun p args => checked_changes (h p args s)

/-! ### Transactions at the ports -/

theorem State.tables_riseRead (s : State) (p : PortIx) (clocked : Nat) :
    (s.riseRead p clocked).tables = s.tables := by
  unfold State.riseRead; dsimp only; split <;> rfl

theorem State.tables_riseCommand (s : State) (p : PortIx) (mosi : List Byte) (loose : Nat) :
    (s.riseCommand p mosi loose).tables = s.tables := by
  unfold State.riseCommand
  dsimp only
  split
  · split <;> rfl
  · split_ifs
    · exact s.tables_riseRead p _
    all_goals rfl

theorem State.tables_mpReceive (s : State) (bytes : List Byte) (loose : Nat) :
    (s.mpReceive bytes loose).tables = s.tables := by
  unfold State.mpReceive
  dsimp only
  split
  · split <;> rfl
  · rfl

/-! ### The events -/

/-- An answer of a step function whose every next state is a change of the tables. -/
def State.onlyChanges (s : State) (o : Host.Outcome State Fault Refusal) : Prop :=
  ∀ t, o = .next t → s.Changes t

theorem State.onlyChanges_next {s t : State} (h : s.Changes t) : s.onlyChanges (.next t) := by
  intro u hu
  cases hu
  exact h

theorem State.onlyChanges_tables {s t : State} (h : t.tables = s.tables) : s.onlyChanges (.next t) :=
  State.onlyChanges_next (.of_tables h)

theorem execCommandTransaction_changes (p : AgentPort) (phase : CommandPhase) (s : State) :
    s.onlyChanges (execCommandTransaction p phase s) := by
  cases phase with
  | fall => exact State.onlyChanges_tables rfl
  | rise mosi loose => exact State.onlyChanges_tables (s.tables_riseCommand _ _ _)

theorem execReadTransaction_changes (p : AgentPort) (phase : ReadPhase) (s : State) :
    s.onlyChanges (execReadTransaction p phase s) := by
  cases phase with
  | fall => exact State.onlyChanges_tables rfl
  | typed => exact State.onlyChanges_tables rfl
  | rise clocked => exact State.onlyChanges_tables (s.tables_riseRead _ _)

theorem execMpWrite_changes (addr : BitVec 7) (bytes : List Byte) (loose : Nat) (s : State) :
    s.onlyChanges (execMpWrite addr bytes loose s) := by
  unfold execMpWrite
  split
  · exact State.onlyChanges_tables (s.tables_mpReceive _ _)
  · exact State.onlyChanges_tables rfl

theorem execMpRead_changes (addr : BitVec 7) (count : Nat) (nackStop : Bool) (s : State) :
    s.onlyChanges (execMpRead addr count nackStop s) := by
  unfold execMpRead
  dsimp only
  split <;> exact State.onlyChanges_tables rfl

theorem execResetPort_changes (p : PortIx) (s : State) : s.onlyChanges (execResetPort p s) := by
  unfold execResetPort
  split
  · exact State.onlyChanges_tables (s.tables_mpReceive _ _)
  · exact State.onlyChanges_tables (s.tables_riseCommand _ _ _)

theorem execClockStop_changes (s : State) : s.onlyChanges (execClockStop s) := by
  unfold execClockStop
  split
  · exact State.onlyChanges_tables rfl
  · exact State.onlyChanges_next (State.management_changes fun _ _ _ => .of_tables rfl)

theorem execTick_changes (periods : Nat) (s : State) : s.onlyChanges (execTick periods s) := by
  unfold execTick
  split
  · exact State.onlyChanges_tables rfl
  · split_ifs <;> exact State.onlyChanges_tables rfl

theorem execWarnMarkReached_changes (l : LeaseSlot) (s : State) :
    s.onlyChanges (execWarnMarkReached l s) := by
  unfold execWarnMarkReached
  split
  · exact State.onlyChanges_tables rfl
  · next r hr =>
    split
    · next h =>
      have hs : r.state = .active := by simp at h; exact h.1
      exact State.onlyChanges_next (State.Change.warned l r _ hr hs).changes
    · exact State.onlyChanges_tables rfl

theorem execHoldExpiry_changes (l : LeaseSlot) (lines : BusLines) (s : State) :
    s.onlyChanges (execHoldExpiry l lines s) := by
  unfold execHoldExpiry
  split
  · exact State.onlyChanges_tables rfl
  · next r hr =>
    split
    · next h =>
      exact State.onlyChanges_next
        (State.Change.revoked l r _ lines hr (Bool.and_eq_true_iff.1 h).1).changes
    · exact State.onlyChanges_tables rfl

theorem execWaitExpiry_changes (l : LeaseSlot) (s : State) : s.onlyChanges (execWaitExpiry l s) := by
  unfold execWaitExpiry
  split
  · exact State.onlyChanges_tables rfl
  · next r hr =>
    split
    · next h =>
      have hs : r.state = .waiting := by simp at h; exact h.1
      exact State.onlyChanges_next (State.Change.waitEnded l r hr hs).changes
    · exact State.onlyChanges_tables rfl

theorem execSessionWarning_changes (i : SessSlot) (s : State) :
    s.onlyChanges (execSessionWarning i s) := by
  unfold execSessionWarning
  split
  · exact State.onlyChanges_tables rfl
  · split <;> exact State.onlyChanges_tables rfl

theorem execSessionLapse_changes (i : SessSlot) (lines : BusLines) (s : State) :
    s.onlyChanges (execSessionLapse i lines s) := by
  unfold execSessionLapse
  split
  · exact State.onlyChanges_tables rfl
  · split
    · exact State.onlyChanges_next ⟨_, .lapsed i _ .expired lines, rfl⟩
    · exact State.onlyChanges_tables rfl

/-- A start on the bus after other changes of the bus alone. -/
theorem State.changes_startAttempt {s u : State} (hu : u.tables = s.tables) (lines : BusLines) :
    s.Changes (u.startAttempt lines) :=
  (State.Change.busFailed u _ (.kept hu) (u.fails_startAttempt lines)).changes

theorem State.changes_failIdle (s : State) (driven : List BusItem) (lines : BusLines) :
    s.Changes (s.failIdle driven lines) :=
  (State.Change.busFailed _ _ (.of_tables (by rfl) (State.fails_failHead _))
    (State.fails_startAttempt _ lines)).changes

theorem execAttemptSuccess_changes (phase : AttemptPhase) (s : State) :
    s.onlyChanges (execAttemptSuccess phase s) := by
  unfold execAttemptSuccess
  split
  · exact State.onlyChanges_tables rfl
  · next a _ =>
    split
    · exact State.onlyChanges_tables rfl
    · cases phase with
      | moved => dsimp only; split <;> exact State.onlyChanges_tables rfl
      | ended lines =>
        dsimp only
        split
        · exact State.onlyChanges_next
            (State.Change.busSettled { s with bus := s.bus.enterIdle a.sequence } _ (by rfl)
              (State.fails_startAttempt _ lines)).changes
        · exact State.onlyChanges_tables rfl

theorem execAttemptNack_changes (at_ : Nat) (lines : BusLines) (s : State) :
    s.onlyChanges (execAttemptNack at_ lines s) := by
  unfold execAttemptNack
  split
  · exact State.onlyChanges_tables rfl
  · split
    · exact State.onlyChanges_next (s.changes_failIdle _ lines)
    · exact State.onlyChanges_tables rfl

theorem execReadBackMismatch_changes (b : Byte) (lines : BusLines) (s : State) :
    s.onlyChanges (execReadBackMismatch b lines s) := by
  unfold execReadBackMismatch
  split
  · exact State.onlyChanges_tables rfl
  · split
    · exact State.onlyChanges_next (s.changes_failIdle _ lines)
    · exact State.onlyChanges_tables rfl

theorem execStall_changes (at_ : Nat) (s : State) : s.onlyChanges (execStall at_ s) := by
  unfold execStall
  split
  · exact State.onlyChanges_tables rfl
  · dsimp only
    split_ifs
    · exact State.onlyChanges_tables rfl
    · exact State.onlyChanges_next
        (State.Change.busFailed _ _ (.kept (by rfl)) (State.fails_failHead _)).changes
    · exact State.onlyChanges_tables rfl

theorem execRecoveryEnd_changes (pulses : Nat) (freed : Bool) (lines : BusLines) (s : State) :
    s.onlyChanges (execRecoveryEnd pulses freed lines s) := by
  unfold execRecoveryEnd
  split
  · exact State.onlyChanges_next (State.changes_startAttempt (by rfl) lines)
  · exact State.onlyChanges_tables rfl

theorem execRecoveryTimeout_changes (pulses : Nat) (lines : BusLines) (s : State) :
    s.onlyChanges (execRecoveryTimeout pulses lines s) := by
  unfold execRecoveryTimeout
  split
  · exact State.onlyChanges_next (State.changes_startAttempt (by rfl) lines)
  · exact State.onlyChanges_tables rfl

theorem execAbandonedAttemptEnd_changes (at_ : Nat) (lines : BusLines) (s : State) :
    s.onlyChanges (execAbandonedAttemptEnd at_ lines s) := by
  unfold execAbandonedAttemptEnd
  split
  · exact State.onlyChanges_tables rfl
  · split
    · exact State.onlyChanges_next (State.changes_startAttempt (by rfl) lines)
    · exact State.onlyChanges_tables rfl

theorem execColdReset_changes (phase : ResetPhase) (s : State) :
    s.onlyChanges (execColdReset phase s) := by
  cases phase with
  | fall => exact State.onlyChanges_next (State.Change.coldReset _ _).changes
  | rise adr => exact State.onlyChanges_next (State.Change.coldReset _ _).changes

theorem execStartupComplete_changes (s : State) : s.onlyChanges (execStartupComplete s) := by
  unfold execStartupComplete
  split <;> exact State.onlyChanges_tables rfl

/-- Every command and event changes the tables by one of the changes. -/
theorem exec_changes (c : Instr) (s : State) : s.onlyChanges (exec c s) := by
  cases c with
  | commandTransaction p phase => exact execCommandTransaction_changes p phase s
  | readTransaction p phase => exact execReadTransaction_changes p phase s
  | mpWrite addr bytes loose => exact execMpWrite_changes addr bytes loose s
  | mpRead addr count nackStop => exact execMpRead_changes addr count nackStop s
  | resetPort p => exact execResetPort_changes p s
  | unknownCommand => exact State.onlyChanges_next (State.take_changes fun _ _ => .of_tables rfl)
  | openSession => exact State.onlyChanges_next (State.command_changes openSession_changes)
  | keepalive => exact State.onlyChanges_next (State.command_changes keepalive_changes)
  | closeSession => exact State.onlyChanges_next (State.command_changes closeSession_changes)
  | acquire => exact State.onlyChanges_next (State.command_changes acquire_changes)
  | release => exact State.onlyChanges_next (State.command_changes release_changes)
  | renew => exact State.onlyChanges_next (State.command_changes renew_changes)
  | queryLease =>
    exact State.onlyChanges_next (State.command_changes fun p args s =>
      .of_tables (queryLease_tables p args s))
  | queryResource =>
    exact State.onlyChanges_next (State.command_changes fun p args s =>
      .of_tables (queryResource_tables p args s))
  | readClock => exact State.onlyChanges_next (State.command_changes fun _ _ _ => .of_tables rfl)
  | fetchNotice => exact State.onlyChanges_next (State.command_changes fetchNotice_changes)
  | ackNotice => exact State.onlyChanges_next (State.command_changes ackNotice_changes)
  | defineResource => exact State.onlyChanges_next (State.management_changes defineResource_changes)
  | amendResource => exact State.onlyChanges_next (State.management_changes amendResource_changes)
  | deleteResource => exact State.onlyChanges_next (State.management_changes deleteResource_changes)
  | forceRevoke lines =>
    exact State.onlyChanges_next (State.management_changes (forceRevoke_changes lines))
  | clearFenceAccept =>
    exact State.onlyChanges_next (State.take_changes fun p args =>
      checked_changes (clearFenceAccept_changes p args s))
  | clearFenceRetry lines =>
    exact State.onlyChanges_next (State.take_changes fun p args =>
      checked_changes (clearFenceRetry_changes lines p args s))
  | clockStart => exact State.onlyChanges_next (State.management_changes fun _ _ _ => .of_tables rfl)
  | clockStop => exact execClockStop_changes s
  | setClock =>
    exact State.onlyChanges_next (State.management_changes fun p args s =>
      .of_tables (setClock_tables p args s))
  | purgeSession lines =>
    exact State.onlyChanges_next (State.management_changes (purgeSession_changes lines))
  | setProfile => exact State.onlyChanges_next (State.management_changes setProfile_changes)
  | setBus =>
    exact State.onlyChanges_next (State.management_changes fun p args s =>
      .of_tables (setBus_tables p args s))
  | setLine =>
    exact State.onlyChanges_next (State.management_changes fun p args s =>
      .of_tables (setLine_tables p args s))
  | setThreshold =>
    exact State.onlyChanges_next (State.management_changes fun p args s =>
      .of_tables (setThreshold_tables p args s))
  | readAlerts =>
    exact State.onlyChanges_next (State.management_changes fun p args s =>
      .of_tables (readAlerts_tables p args s))
  | ackAlert =>
    exact State.onlyChanges_next (State.management_changes fun p args s =>
      .of_tables (ackAlert_tables p args s))
  | warmReset lines =>
    exact State.onlyChanges_next (State.management_changes fun _ _ s =>
      (State.Change.warmReset _ (s.warmReset.fails_startAttempt lines)).changes)
  | tick periods => exact execTick_changes periods s
  | warnMarkReached l => exact execWarnMarkReached_changes l s
  | holdExpiry l lines => exact execHoldExpiry_changes l lines s
  | waitExpiry l => exact execWaitExpiry_changes l s
  | sessionWarning i => exact execSessionWarning_changes i s
  | sessionLapse i lines => exact execSessionLapse_changes i lines s
  | attemptSuccess phase => exact execAttemptSuccess_changes phase s
  | attemptNack at_ lines => exact execAttemptNack_changes at_ lines s
  | readBackMismatch b lines => exact execReadBackMismatch_changes b lines s
  | stall at_ => exact execStall_changes at_ s
  | recoveryEnd pulses freed lines => exact execRecoveryEnd_changes pulses freed lines s
  | recoveryTimeout pulses lines => exact execRecoveryTimeout_changes pulses lines s
  | abandonedAttemptEnd at_ lines => exact execAbandonedAttemptEnd_changes at_ lines s
  | coldReset phase => exact execColdReset_changes phase s
  | startupComplete => exact execStartupComplete_changes s
  | resetPortBadArg => exact State.onlyChanges_next (State.take_changes fun _ _ => .of_tables rfl)

/-- What a step can do to the tables: nothing, or a change from the state with the event taken off the
queue. -/
theorem step_changes {s t : State} (h : step s = .next t) :
    ∃ rest, ({ s with pending := rest } : State).Changes t := by
  unfold step at h
  split at h
  · cases h
    exact ⟨s.pending, .of_tables rfl⟩
  · next c rest _ => exact ⟨rest, exec_changes c _ t h⟩

end Sys2Proof.Machine
end

section
/-! SUPPORT. Every change of the tables keeps the laws of the directory. While a grant check is due on an
entry, that entry may be FREE with a wait queue: the laws are then stated with a weaker shape there. -/

namespace Sys2Proof.Machine

/-! ### Entries that follow one another -/

/-- The terms of an entry are not 0 (R2). -/
def Entry.termsSet (e : Entry) : Prop := e.current.term ≠ 0 ∧ ∀ q, e.staged = some q → q.term ≠ 0

/-- Entry `f` may stand where `e` stood: key, bindings, and terms that are not 0 are kept. -/
structure Entry.FollowedBy (e f : Entry) : Prop where
  key : f.key = e.key
  profile : f.profile = e.profile
  line : f.line = e.line
  terms : e.termsSet → f.termsSet

/-- What AMEND RESOURCE, and the policy rules, change of an entry, and its key. -/
def Entry.settings (e : Entry) : Word × Option ProfileNo × Option LineBinding × Policy × Option Policy :=
  (e.key, e.profile, e.line, e.current, e.staged)

theorem Entry.followedBy_of_settings {e f : Entry} (h : f.settings = e.settings) : e.FollowedBy f := by
  simp only [Entry.settings, Prod.mk.injEq] at h
  obtain ⟨hk, hp, hl, hc, hs⟩ := h
  exact ⟨hk, hp, hl, fun h => by rwa [Entry.termsSet, hc, hs]⟩

/-- A staged policy that is applied brings its own term (R10). -/
theorem Entry.termsSet_settlePolicy {e : Entry} (h : e.termsSet) : e.settlePolicy.termsSet := by
  obtain ⟨hc, hs⟩ := h
  refine ⟨?_, fun q hq => by simp [Entry.settlePolicy] at hq⟩
  cases hq : e.staged with
  | none => simpa [Entry.settlePolicy, hq] using hc
  | some q => simpa [Entry.settlePolicy, hq] using hs q hq

theorem Entry.followedBy_enterFree (e : Entry) : e.FollowedBy e.enterFree :=
  ⟨rfl, rfl, rfl, Entry.termsSet_settlePolicy⟩

theorem Entry.followedBy_enterFencing (e : Entry) : e.FollowedBy e.enterFencing :=
  ⟨rfl, rfl, rfl, Entry.termsSet_settlePolicy⟩

theorem Entry.FollowedBy.trans {e f g : Entry} (h : e.FollowedBy f) (k : f.FollowedBy g) :
    e.FollowedBy g :=
  ⟨k.key.trans h.key, k.profile.trans h.profile, k.line.trans h.line, fun t => k.terms (h.terms t)⟩

theorem Entry.followedBy_granted (e : Entry) (q : List LeaseSlot) (l : LeaseSlot) (mode : LeaseMode) :
    e.FollowedBy (({ e with queue := q } : Entry).granted l mode) := by
  cases mode <;> exact Entry.followedBy_of_settings rfl

/-! ### Shapes -/

/-- The shape of an entry (R3, R10), but that a FREE one may have a wait queue. -/
def Entry.opened (e : Entry) : Prop := ({ e with queue := [] } : Entry).shaped

theorem Entry.shaped.opened {e : Entry} (h : e.shaped) : e.opened := by
  unfold Entry.opened Entry.shaped
  unfold Entry.shaped at h
  cases hs : e.state <;> simp_all

theorem Entry.opened.shaped_of_queue {e : Entry} (h : e.opened) (hq : e.queue = []) : e.shaped := by
  unfold Entry.opened at h
  rwa [← hq] at h

theorem Entry.opened.shaped_of_state {e : Entry} (h : e.opened) (hs : e.state ≠ .free) : e.shaped := by
  unfold Entry.opened Entry.shaped at h
  unfold Entry.shaped
  cases hs : e.state <;> simp_all

theorem Entry.opened_enterFree (e : Entry) : e.enterFree.opened := by
  simp [Entry.opened, Entry.shaped, Entry.enterFree, Entry.settlePolicy]

theorem Entry.shaped_enterFencing (e : Entry) : e.enterFencing.shaped := by
  simp [Entry.shaped, Entry.enterFencing, Entry.settlePolicy]

/-- A SHARED grant from FREE or HELD_SHARED gives a shared entry (R4). -/
theorem Entry.shaped_granted_shared {e : Entry} (h : e.opened)
    (hs : e.state = .free ∨ e.state = .heldShared) (l : LeaseSlot) :
    (e.granted l .shared).shaped := by
  unfold Entry.opened Entry.shaped at h
  rcases hs with hs | hs <;> simp_all [Entry.shaped, Entry.granted]

/-- An EXCLUSIVE grant from FREE gives an entry with one holder (R4). -/
theorem Entry.shaped_granted_exclusive {e : Entry} (h : e.opened) (hs : e.state = .free)
    (l : LeaseSlot) : (e.granted l .exclusive).shaped := by
  unfold Entry.opened Entry.shaped at h
  simp_all [Entry.shaped, Entry.granted]

/-! ### The laws with another shape at one slot -/

/-- The laws of the directory, with `P` in place of the shape of the entry of slot `i`. -/
def State.directoryLawsWith (s : State) (i : DirSlot) (P : Entry → Prop) : Prop :=
  (∀ j e, s.entry j = some e → (if j = i then P e else e.shaped) ∧ s.entryInRange e) ∧
  (∀ j k e f, s.entry j = some e → s.entry k = some f → e.key = f.key → j = k) ∧
  ∀ j k e f b c, s.entry j = some e → s.entry k = some f → e.line = some b → f.line = some c →
    b.line = c.line → j = k

theorem State.directoryLawsWith_shaped (s : State) (i : DirSlot) :
    s.directoryLawsWith i Entry.shaped ↔ s.directoryLaws := by
  simp only [State.directoryLawsWith, State.directoryLaws, ite_self]

theorem State.directoryLaws.with_opened {s : State} (h : s.directoryLaws) (i : DirSlot) :
    s.directoryLawsWith i Entry.opened := by
  obtain ⟨hshape, hkeys, hlines⟩ := h
  refine ⟨fun j e he => ⟨?_, (hshape j e he).2⟩, hkeys, hlines⟩
  split
  · exact (hshape j e he).1.opened
  · exact (hshape j e he).1

theorem State.directoryLaws_congr {s t : State} (ht : t.tables = s.tables) (h : s.directoryLaws) :
    t.directoryLaws := by
  simpa only [State.directoryLaws, State.entryInRange, State.entry_congr ht, State.profiles_congr ht]
    using h

theorem State.entryInRange_followed {s : State} {e f : Entry} (h : s.entryInRange e)
    (hf : e.FollowedBy f) : s.entryInRange f := by
  obtain ⟨hk, hc, hs, hp⟩ := h
  obtain ⟨hc', hs'⟩ := hf.terms ⟨hc, hs⟩
  exact ⟨hf.key ▸ hk, hc', hs', hf.profile ▸ hp⟩

/-- An entry replaced by one that may follow it. -/
theorem State.directoryLawsWith.setEntry {s : State} {i : DirSlot} {P Q : Entry → Prop}
    (h : s.directoryLawsWith i P) {e f : Entry} (he : s.entry i = some e) (hf : e.FollowedBy f)
    (hq : Q f) : (s.setEntry i (some f)).directoryLawsWith i Q := by
  obtain ⟨hshape, hkeys, hlines⟩ := h
  -- an entry of the new directory has the key and the line of the entry that stood in its slot
  have hold : ∀ j g, (s.setEntry i (some f)).entry j = some g →
      ∃ g', s.entry j = some g' ∧ g.key = g'.key ∧ g.line = g'.line := by
    intro j g hg
    rw [State.entry_setEntry] at hg
    split at hg
    · cases hg
      subst_vars
      exact ⟨e, he, hf.key, hf.line⟩
    · exact ⟨g, hg, rfl, rfl⟩
  refine ⟨fun j g hg => ?_, fun j k g g' hg hg' hkey => ?_, fun j k g g' b c hg hg' hb hc hbc => ?_⟩
  · rw [State.entry_setEntry] at hg
    split at hg
    · next hj =>
      cases hg
      rw [if_pos hj]
      exact ⟨hq, State.entryInRange_followed (hshape i e he).2 hf⟩
    · next hj =>
      have := hshape j g hg
      rw [if_neg hj] at this ⊢
      exact this
  · obtain ⟨o, ho, hok, -⟩ := hold j g hg
    obtain ⟨o', ho', hok', -⟩ := hold k g' hg'
    exact hkeys j k o o' ho ho' (by rw [← hok, ← hok', hkey])
  · obtain ⟨o, ho, -, hol⟩ := hold j g hg
    obtain ⟨o', ho', -, hol'⟩ := hold k g' hg'
    exact hlines j k o o' b c ho ho' (hol ▸ hb) (hol' ▸ hc) hbc

/-- An entry replaced by a shaped one that may follow it. -/
theorem State.directoryLaws.setEntry {s : State} (h : s.directoryLaws) {i : DirSlot} {e f : Entry}
    (he : s.entry i = some e) (hf : e.FollowedBy f) (hs : f.shaped) :
    (s.setEntry i (some f)).directoryLaws :=
  (State.directoryLawsWith_shaped _ i).1 (((s.directoryLawsWith_shaped i).2 h).setEntry he hf hs)

/-! ### Reports and attempts that fail -/

theorem State.directoryLawsWith.reportSpent {s : State} {i : DirSlot} {P : Entry → Prop}
    (h : s.directoryLawsWith i P) (hP : ∀ e, P e → P { e with spentReported := true }) :
    (s.reportSpent i).directoryLawsWith i P := by
  unfold State.reportSpent
  split
  · exact h
  · next e he =>
    split
    · exact h
    · have hPe := (h.1 i e he).1
      rw [if_pos rfl] at hPe
      exact h.setEntry he (Entry.followedBy_of_settings rfl) (hP e hPe)

theorem State.directoryLaws.fails {s t : State} (h : s.directoryLaws) (ht : s.Fails t) :
    t.directoryLaws := by
  cases ht with
  | kept ht => exact State.directoryLaws_congr ht h
  | failed i e he hs ht =>
    refine State.directoryLaws_congr ht
      (h.setEntry he (Entry.followedBy_of_settings rfl) ?_)
    have := (h.1 i e he).1
    simpa [Entry.shaped, hs] using this

/-! ### The grant check -/

@[simp] theorem State.entry_endRecord (s : State) (l : LeaseSlot) (c : EndCause) (i : DirSlot) :
    (s.endRecord l c).entry i = s.entry i := by
  unfold State.endRecord; split <;> rfl

theorem State.directoryLawsWith.endRecord {s : State} {i : DirSlot} {P : Entry → Prop}
    (h : s.directoryLawsWith i P) (l : LeaseSlot) (c : EndCause) :
    (s.endRecord l c).directoryLawsWith i P := by
  unfold State.endRecord
  split <;> exact h

/-- The queue of slot `i` after the report, the entry being otherwise as it was. -/
theorem State.queue_reportSpent {s : State} {i : DirSlot} {q : List LeaseSlot}
    (h : ∀ e, s.entry i = some e → e.queue = q) :
    ∀ e, (s.reportSpent i).entry i = some e → e.queue = q := by
  unfold State.reportSpent
  split
  · exact h
  · next e he =>
    split
    · exact h
    · intro f hf
      rw [show (((s.setEntry i _).raiseSpent i).entry i) = _ from State.entry_setEntry_self _ _ _] at hf
      cases hf
      exact h e he

/-- The grant check makes an opened entry shaped: a FREE entry is left with no wait queue. -/
theorem grantSteps_directoryLaws {i : DirSlot} (q : List LeaseSlot) {s : State}
    (h : s.directoryLawsWith i Entry.opened) (hq : ∀ e, s.entry i = some e → e.queue = q) :
    (grantSteps i q s).directoryLaws := by
  induction q generalizing s with
  | nil =>
    rw [grantSteps, ← State.directoryLawsWith_shaped s i]
    obtain ⟨hshape, hkeys, hlines⟩ := h
    refine ⟨fun j e he => ?_, hkeys, hlines⟩
    have hj := hshape j e he
    split at hj
    · next hji =>
      subst hji
      exact ⟨by simpa using hj.1.shaped_of_queue (hq e he), hj.2⟩
    · exact ⟨by simpa using hj.1, hj.2⟩
  | cons l rest ih =>
    rw [grantSteps]
    split
    · next hn =>
      obtain ⟨hshape, hkeys, hlines⟩ := h
      refine ⟨fun j e he => ?_, hkeys, hlines⟩
      have hj : j ≠ i := by rintro rfl; simp [hn] at he
      simpa [hj] using hshape j e he
    · next e he =>
      have hopen : e.opened := by simpa using (h.1 i e he).1
      -- a slot whose entry is shaped as it stands
      have hkeep : e.shaped → s.directoryLaws := fun hs => by
        have := h.setEntry he (Entry.followedBy_of_settings rfl) hs
        rw [← he, State.setEntry_entry] at this
        exact (State.directoryLawsWith_shaped s i).1 this
      split
      · next hst =>
        split
        · exact ih (h.setEntry he (Entry.followedBy_of_settings rfl) hopen) (by simp)
        · next r hr =>
          split
          · next hm =>
            refine ih ?_ ?_
            · rw [State.grantHead, hm]
              exact h.setEntry he (e.followedBy_granted rest l .shared)
                (Entry.shaped_granted_shared (e := { e with queue := rest }) hopen hst l).opened
            · simp [State.grantHead, hm, Entry.granted]
          · next hm =>
            split
            · refine ih ?_ ?_
              · refine State.directoryLawsWith.reportSpent (State.directoryLawsWith.endRecord ?_ l _)
                  fun _ hf => hf
                exact h.setEntry he (Entry.followedBy_of_settings rfl) hopen
              · exact State.queue_reportSpent (by simp)
            · split
              · next hfree =>
                rw [State.grantHead, hm]
                exact (State.directoryLawsWith_shaped _ i).1
                  (h.setEntry he (e.followedBy_granted rest l .exclusive)
                    (Entry.shaped_granted_exclusive (e := { e with queue := rest }) hopen hfree l))
              · next hfree => exact hkeep (hopen.shaped_of_state hfree)
      · next hst => exact hkeep (hopen.shaped_of_state fun hfree => hst (.inl hfree))

theorem State.directoryLawsWith.grantCheck {s : State} {i : DirSlot}
    (h : s.directoryLawsWith i Entry.opened) : (s.grantCheck i).directoryLaws := by
  unfold State.grantCheck
  split
  · next hn => exact grantSteps_directoryLaws [] h (by simp [hn])
  · next e he => exact grantSteps_directoryLaws _ h (by simp [he])

/-- An entry that enters FREE and runs the grant check. -/
theorem State.directoryLaws.freed {s : State} (h : s.directoryLaws) {i : DirSlot} {e f : Entry}
    (he : s.entry i = some e) (hf : e.FollowedBy f) :
    ((s.setEntry i (some f.enterFree)).grantCheck i).directoryLaws :=
  ((h.with_opened i).setEntry he (hf.trans f.followedBy_enterFree) f.opened_enterFree).grantCheck

/-! ### Leaving an entry -/

theorem State.directoryLaws.endRecord {s : State} (h : s.directoryLaws) (l : LeaseSlot) (c : EndCause) :
    (s.endRecord l c).directoryLaws := by
  unfold State.endRecord
  split <;> exact h

theorem State.directoryLaws.vacateRecord {s : State} (h : s.directoryLaws) (l : LeaseSlot) :
    (s.vacateRecord l).directoryLaws := by
  unfold State.vacateRecord State.modifySession
  split
  · exact h
  · split <;> exact h

theorem State.directoryLaws.dropHolder {s : State} (h : s.directoryLaws) (i : DirSlot) (l : LeaseSlot) :
    (s.dropHolder i l).directoryLaws := by
  unfold State.dropHolder
  split
  · exact h
  · next e he =>
    split
    · exact h.freed he (Entry.followedBy_of_settings rfl)
    · next hh =>
      refine h.setEntry he (Entry.followedBy_of_settings rfl) ?_
      -- more than one holder: the entry is HELD_SHARED
      have hs := (h.1 i e he).1
      simp only [Entry.shaped] at hs ⊢
      cases hst : e.state with
      | heldShared =>
        simp only [hst] at hs ⊢
        exact ⟨by omega, by simp [hs.2]⟩
      | free => simp only [hst] at hs; omega
      | heldExclusive => simp only [hst] at hs; omega
      | fencing => simp only [hst] at hs; omega
      | fenceFailed => simp only [hst] at hs; omega

theorem State.directoryLaws.leaveQueue {s : State} (h : s.directoryLaws) (i : DirSlot) (l : LeaseSlot) :
    (s.leaveQueue i l).directoryLaws := by
  refine State.directoryLawsWith.grantCheck ?_
  unfold State.modifyEntry
  split
  · exact h.with_opened i
  · next e he =>
    exact (h.with_opened i).setEntry he (Entry.followedBy_of_settings rfl)
      (h.1 i e he).1.opened

theorem State.directoryLaws.freeRecord {s : State} (h : s.directoryLaws) (l : LeaseSlot) :
    (s.freeRecord l).directoryLaws := by
  unfold State.freeRecord
  split
  · exact h
  · next r hr =>
    have hv := h.vacateRecord l
    cases r.state with
    | waiting => exact hv.leaveQueue _ _
    | active => exact hv.dropHolder _ _
    | warned => exact hv.dropHolder _ _
    | ended => exact hv

theorem State.directoryLaws.revokeExclusive {s : State} (h : s.directoryLaws) (i : DirSlot)
    (lines : BusLines) : (s.revokeExclusive i lines).directoryLaws := by
  unfold State.revokeExclusive
  split
  · exact h
  · next e he =>
    have hf : e.FollowedBy { e with generation := e.generation + 1 } :=
      Entry.followedBy_of_settings rfl
    dsimp only
    split
    · exact (h.setEntry he (hf.trans (Entry.followedBy_enterFencing _))
        (Entry.shaped_enterFencing _)).fails (State.fails_appendJob _ _ _)
    · exact h.freed he hf

theorem State.directoryLaws.revokeEnding {s : State} (h : s.directoryLaws) (l : LeaseSlot)
    (c : EndCause) (lines : BusLines) : (s.revokeEnding l c lines).directoryLaws := by
  unfold State.revokeEnding
  split
  · exact h
  · next r hr =>
    unfold State.revokeAt
    split
    · exact (h.endRecord l c).dropHolder _ _
    · exact (h.endRecord l c).revokeExclusive _ _

theorem State.directoryLaws.teardownRecord {s : State} (h : s.directoryLaws) (l : LeaseSlot)
    (lines : BusLines) : (State.teardownRecord lines s l).directoryLaws := by
  unfold State.teardownRecord
  split
  · exact h
  · split
    · exact (h.vacateRecord l).revokeExclusive _ _
    · exact h.freeRecord l

/-- A walk whose every step keeps a law keeps it. -/
theorem foldl_preserves {α : Type} (P : State → Prop) (f : State → α → State)
    (h : ∀ s a, P s → P (f s a)) (l : List α) {s : State} (hs : P s) : P (l.foldl f s) := by
  induction l generalizing s with
  | nil => exact hs
  | cons a l ih => exact ih (h s a hs)

/-! ### The bus and the notices -/

theorem State.directoryLaws.settleHead {s : State} (h : s.directoryLaws) :
    s.settleHead.directoryLaws := by
  unfold State.settleHead
  split
  · exact h
  · next j rest hq =>
    have h' : ({ s with fenceQueue := rest } : State).directoryLaws := h
    dsimp only
    split
    · exact h'
    · next e he =>
      split
      · exact h'.freed he (Entry.followedBy_of_settings rfl)
      · exact h'

theorem State.directoryLaws.retireRecord {s : State} (h : s.directoryLaws) (l : LeaseSlot) :
    (s.retireRecord l).directoryLaws := by
  unfold State.retireRecord
  split
  · exact h
  · split
    · exact h
    · exact h.freeRecord l
    · exact h

/-! ### The commands of the directory -/

theorem State.findKey_none_iff {s : State} {key : Word} :
    s.findKey key = none ↔ ∀ i e, s.entry i = some e → e.key ≠ key := by
  unfold State.findKey
  simp only [List.findSome?_eq_none_iff, List.mem_finRange, forall_const]
  refine forall_congr' fun i => ?_
  cases s.entry i <;> simp

theorem State.lineTaken_false_iff {s : State} {self : Option DirSlot} {b : Option LineBinding} :
    s.lineTaken self b = false ↔ ∀ c, b = some c → ∀ i f d, some i ≠ self → s.entry i = some f →
      f.line = some d → d.line ≠ c.line := by
  unfold State.lineTaken
  cases b with
  | none => simp
  | some c =>
    simp only [List.any_eq_false, List.mem_finRange, forall_const, Option.some.injEq, forall_eq']
    refine forall_congr' fun i => ?_
    cases hf : s.entry i with
    | none => simp
    | some f =>
      cases hd : f.line with
      | none =>
        simp only [Option.bind_some, hd, Option.map_none, reduceCtorEq, decide_false, Bool.and_false,
          Bool.false_eq_true, not_false_eq_true, true_iff]
        rintro g b - hg hb
        cases hg
        cases hd.symm.trans hb
      | some d =>
        simp only [Option.bind_some, hd, Option.map_some, Bool.and_eq_true, decide_eq_true_eq, not_and]
        constructor
        · rintro h g b hi hg hb
          cases hg
          cases hd.symm.trans hb
          simpa using h hi
        · intro h hi
          simpa using h f d hi rfl hd

theorem State.profileUsable_iff {s : State} {p : Option ProfileNo} :
    s.profileUsable p = true ↔ ∀ n, p = some n → s.profiles.get n ≠ none := by
  unfold State.profileUsable
  cases p with
  | none => simp
  | some n => simp [Option.isSome_iff_ne_none]

/-- An entry may be put into slot `i` if it is shaped and in range, and no other entry has its key or its
line. -/
theorem State.directoryLaws.put {s : State} (h : s.directoryLaws) {i : DirSlot} {f : Entry}
    (hs : f.shaped) (hr : s.entryInRange f)
    (hkey : ∀ j e, j ≠ i → s.entry j = some e → e.key ≠ f.key)
    (hline : ∀ j e b c, j ≠ i → s.entry j = some e → e.line = some b → f.line = some c →
      b.line ≠ c.line) : (s.setEntry i (some f)).directoryLaws := by
  obtain ⟨hshape, hkeys, hlines⟩ := h
  have hcases : ∀ j g, (s.setEntry i (some f)).entry j = some g →
      (i = j ∧ f = g) ∨ (j ≠ i ∧ s.entry j = some g) := by
    intro j g hg
    rw [State.entry_setEntry] at hg
    split at hg
    · next hj => exact .inl ⟨hj.symm, Option.some.inj hg⟩
    · next hj => exact .inr ⟨hj, hg⟩
  refine ⟨fun j g hg => ?_, fun j k g g' hg hg' hk => ?_, fun j k g g' b c hg hg' hb hc hbc => ?_⟩
  · rcases hcases j g hg with ⟨-, rfl⟩ | ⟨-, hg⟩
    · exact ⟨hs, hr⟩
    · exact hshape j g hg
  · rcases hcases j g hg with ⟨rfl, rfl⟩ | ⟨hj, hg⟩
    · rcases hcases k g' hg' with ⟨hk', -⟩ | ⟨hk', hg'⟩
      · exact hk'
      · exact absurd hk.symm (hkey k g' hk' hg')
    · rcases hcases k g' hg' with ⟨rfl, rfl⟩ | ⟨-, hg'⟩
      · exact absurd hk (hkey j g hj hg)
      · exact hkeys j k g g' hg hg' hk
  · rcases hcases j g hg with ⟨rfl, rfl⟩ | ⟨hj, hg⟩
    · rcases hcases k g' hg' with ⟨hk', -⟩ | ⟨hk', hg'⟩
      · exact hk'
      · exact absurd hbc.symm (hline k g' c b hk' hg' hc hb)
    · rcases hcases k g' hg' with ⟨rfl, rfl⟩ | ⟨-, hg'⟩
      · exact absurd hbc (hline j g b c hj hg hb hc)
      · exact hlines j k g g' b c hg hg' hb hc hbc

theorem State.directoryLaws.vacate {s : State} (h : s.directoryLaws) (i : DirSlot) :
    (s.setEntry i none).directoryLaws := by
  obtain ⟨hshape, hkeys, hlines⟩ := h
  have hold : ∀ j g, (s.setEntry i none).entry j = some g → s.entry j = some g := by
    intro j g hg
    rw [State.entry_setEntry] at hg
    split at hg
    · cases hg
    · exact hg
  exact ⟨fun j g hg => hshape j g (hold j g hg),
    fun j k g g' hg hg' => hkeys j k g g' (hold j g hg) (hold k g' hg'),
    fun j k g g' b c hg hg' => hlines j k g g' b c (hold j g hg) (hold k g' hg')⟩

theorem Entry.amended_key (e : Entry) (a : AmendArgs) : (e.amended a).key = e.key := by
  unfold Entry.amended; dsimp only; split_ifs <;> rfl

theorem Entry.amended_profile (e : Entry) (a : AmendArgs) :
    (e.amended a).profile = a.profile.getD e.profile := by
  unfold Entry.amended; dsimp only; split_ifs <;> rfl

theorem Entry.amended_line (e : Entry) (a : AmendArgs) :
    (e.amended a).line = a.line.getD e.line := by
  unfold Entry.amended; dsimp only; split_ifs <;> rfl

/-- An amended policy has a term that is not 0 when the old one and a named term are not. -/
theorem AmendArgs.term_amendPolicy {a : AmendArgs} {p : Policy} (ht : ∀ t, a.term = some t → t ≠ 0)
    (hp : p.term ≠ 0) : (a.amendPolicy p).term ≠ 0 := by
  unfold AmendArgs.amendPolicy
  cases h : a.term with
  | none => exact hp
  | some t => exact ht t h

theorem Entry.termsSet_amended {e : Entry} {a : AmendArgs} (ht : ∀ t, a.term = some t → t ≠ 0)
    (he : e.termsSet) : (e.amended a).termsSet := by
  obtain ⟨hc, hs⟩ := he
  unfold Entry.amended
  dsimp only
  split_ifs
  · exact ⟨hc, hs⟩
  · exact ⟨a.term_amendPolicy ht hc, hs⟩
  · refine ⟨hc, fun q hq => ?_⟩
    cases hq
    refine a.term_amendPolicy ht ?_
    cases hst : e.staged with
    | none => exact hc
    | some q => exact hs q hst

theorem Entry.shaped_amended {e : Entry} (a : AmendArgs) (he : e.shaped) : (e.amended a).shaped := by
  unfold Entry.shaped at he
  unfold Entry.amended
  dsimp only
  split_ifs with hn hfree
  · exact he
  · simpa [Entry.shaped, hfree] using he
  · unfold Entry.shaped
    cases hst : e.state <;> simp_all

theorem State.directoryLaws.amended {s : State} (h : s.directoryLaws) {i : DirSlot} {e : Entry}
    {a : AmendArgs} (he : s.entry i = some e) (ht : ∀ t, a.term = some t → t ≠ 0)
    (hp : s.profileUsable (a.profile.getD none) = true)
    (hl : s.lineTaken (some i) (a.line.getD none) = false) :
    (s.setEntry i (some (e.amended a))).directoryLaws := by
  obtain ⟨hshape, hkeys, hlines⟩ := id h
  obtain ⟨hs, hk, hc, hst, hprof⟩ := hshape i e he
  obtain ⟨hc', hst'⟩ := Entry.termsSet_amended ht ⟨hc, hst⟩
  refine h.put (e.shaped_amended a hs) ⟨?_, hc', hst', fun n hn => ?_⟩
    (fun j f hj hf hkey => hj ?_) fun j f b c hj hf hb hcl hbc => hj ?_
  · rwa [Entry.amended_key]
  · rw [Entry.amended_profile] at hn
    cases hap : a.profile with
    | none => exact hprof n (by simpa [hap] using hn)
    | some p => exact State.profileUsable_iff.1 hp n (by simpa [hap] using hn)
  · rw [Entry.amended_key] at hkey
    exact hkeys j i f e hf he hkey
  · rw [Entry.amended_line] at hcl
    cases hal : a.line with
    | none => exact hlines j i f e b c hf he hb (by simpa [hal] using hcl) hbc
    | some q =>
      exact absurd hbc (State.lineTaken_false_iff.1 hl c (by simpa [hal] using hcl) j f b (by simpa)
        hf hb)

theorem State.directoryLaws.defined {s : State} (h : s.directoryLaws) {i : DirSlot} {a : DefineArgs}
    (hk : a.key ≠ 0) (ht : a.policy.term ≠ 0) (hp : s.profileUsable a.profile = true)
    (hf : s.findKey a.key = none) (hl : s.lineTaken none a.line = false) :
    (s.setEntry i (some (newEntry a))).directoryLaws :=
  h.put (by simp [Entry.shaped, newEntry])
    ⟨hk, ht, by simp [newEntry], State.profileUsable_iff.1 hp⟩
    (fun j e _ he => State.findKey_none_iff.1 hf j e he)
    fun j e b c _ he hb hc => State.lineTaken_false_iff.1 hl c hc j e b (by simp) he hb

theorem State.profileNamed_false {s : State} {n : ProfileNo} (h : s.profileNamed n = false)
    {i : DirSlot} {e : Entry} (he : s.entry i = some e) : e.profile ≠ some n := by
  intro hn
  have hm : some e ∈ s.directory.toList := by
    rw [← he]
    simp [State.entry, Vector.get]
  simpa [hn] using List.any_eq_false.1 h (some e) hm

theorem State.directoryLaws.profileSet {s : State} (h : s.directoryLaws) {n : ProfileNo}
    {p : Option Profile} (hp : p = none → s.profileNamed n = false) :
    ({ s with profiles := Machine.put s.profiles n p } : State).directoryLaws := by
  obtain ⟨hshape, hkeys, hlines⟩ := h
  refine ⟨fun i e he => ?_, hkeys, hlines⟩
  obtain ⟨hs, hk, hc, hst, hprof⟩ := hshape i e he
  refine ⟨hs, hk, hc, hst, fun m hm => ?_⟩
  show (Machine.put s.profiles n p).get m ≠ none
  rw [get_put]
  split
  · next hmn =>
    subst hmn
    rintro rfl
    exact State.profileNamed_false (hp rfl) he hm
  · exact hprof m hm

/-! ### Resets -/

theorem State.entry_warmReset (s : State) (i : DirSlot) :
    s.warmReset.entry i = (s.entry i).map s.settled := by
  simp only [State.entry, State.warmReset, Vector.get_eq_getElem, Vector.getElem_map]

theorem State.settled_followedBy (s : State) (e : Entry) : e.FollowedBy (s.settled e) := by
  unfold State.settled
  dsimp only
  split
  · refine .trans ?_ (Entry.followedBy_enterFencing _)
    exact Entry.followedBy_of_settings rfl
  · refine .trans ?_ (Entry.followedBy_enterFree _)
    exact Entry.followedBy_of_settings rfl

theorem State.settled_shaped (s : State) (e : Entry) : (s.settled e).shaped := by
  unfold State.settled
  dsimp only
  split
  · exact Entry.shaped_enterFencing _
  · exact (Entry.opened_enterFree _).shaped_of_queue rfl

theorem State.directoryLaws.warmReset {s : State} (h : s.directoryLaws) : s.warmReset.directoryLaws := by
  obtain ⟨hshape, hkeys, hlines⟩ := h
  have hold : ∀ i f, s.warmReset.entry i = some f → ∃ e, s.entry i = some e ∧ f = s.settled e := by
    intro i f hf
    rw [State.entry_warmReset, Option.map_eq_some_iff] at hf
    obtain ⟨e, he, rfl⟩ := hf
    exact ⟨e, he, rfl⟩
  refine ⟨fun i f hf => ?_, fun i j f g hf hg hk => ?_, fun i j f g b c hf hg hb hc hbc => ?_⟩
  · obtain ⟨e, he, rfl⟩ := hold i f hf
    exact ⟨s.settled_shaped e,
      State.entryInRange_followed (s := s) (hshape i e he).2 (s.settled_followedBy e)⟩
  · obtain ⟨e, he, rfl⟩ := hold i f hf
    obtain ⟨e', he', rfl⟩ := hold j g hg
    rw [(s.settled_followedBy e).key, (s.settled_followedBy e').key] at hk
    exact hkeys i j e e' he he' hk
  · obtain ⟨e, he, rfl⟩ := hold i f hf
    obtain ⟨e', he', rfl⟩ := hold j g hg
    rw [(s.settled_followedBy e).line] at hb
    rw [(s.settled_followedBy e').line] at hc
    exact hlines i j e e' b c he he' hb hc hbc

theorem State.entry_coldReset (s : State) (low adr : Bool) (i : DirSlot) :
    (s.coldReset low adr).entry i = none := by
  simp [State.entry, State.coldReset, State.reset, Vector.get]

theorem State.directoryLaws_of_vacant {s : State} (h : ∀ i, s.entry i = none) : s.directoryLaws := by
  simp [State.directoryLaws, h]

/-! ### Every step -/

theorem Entry.grantable_iff {e : Entry} {mode : LeaseMode} : e.grantable mode = true ↔
    e.queue = [] ∧ (e.state = .free ∨ (e.state = .heldShared ∧ mode = .shared)) := by
  simp [Entry.grantable]

theorem Entry.not_grantable_free {e : Entry} {mode : LeaseMode} (h : e.grantable mode = false)
    (hq : e.queue = []) : e.state ≠ .free := by
  intro hs
  rw [Entry.grantable_iff.2 ⟨hq, .inl hs⟩] at h
  cases h

/-- A record allocated: its slot is written with the next issue number (R22). -/
theorem State.tables_allocate (s : State) (l : LeaseSlot) (r : LeaseRecord) : (s.allocate l r).tables =
    (s.setLease l { issue := (s.lease l).issue + 1, record := some r }).tables := by
  rw [State.allocate, State.tables_modifySession]

theorem State.directoryLaws.allocate {s : State} (h : s.directoryLaws) (l : LeaseSlot)
    (r : LeaseRecord) : (s.allocate l r).directoryLaws :=
  State.directoryLaws_congr (s.tables_allocate l r) h

theorem State.directoryLaws.granted {s : State} (h : s.directoryLaws) {d : DirSlot} {e : Entry}
    {mode : LeaseMode} {l : LeaseSlot} (he : s.entry d = some e) (hg : e.grantable mode = true) :
    (s.setEntry d (some (e.granted l mode))).directoryLaws := by
  have ho := (h.1 d e he).1.opened
  obtain ⟨-, hs⟩ := Entry.grantable_iff.1 hg
  refine h.setEntry he (e.followedBy_granted e.queue l mode) ?_
  cases mode with
  | shared => exact Entry.shaped_granted_shared ho (hs.imp_right And.left) l
  | exclusive => exact Entry.shaped_granted_exclusive ho (by simpa using hs) l

theorem State.directoryLaws.enqueued {s : State} (h : s.directoryLaws) {d : DirSlot} {e : Entry}
    {mode : LeaseMode} (q : List LeaseSlot) (he : s.entry d = some e) (hg : e.grantable mode = false) :
    (s.setEntry d (some { e with queue := q })).directoryLaws := by
  have hs := (h.1 d e he).1
  have hfree : e.state ≠ .free := fun hf =>
    Entry.not_grantable_free hg (by simp only [Entry.shaped, hf] at hs; exact hs.2.2.1) hf
  exact h.setEntry he (Entry.followedBy_of_settings rfl)
    (Entry.opened.shaped_of_state (e := { e with queue := q }) hs.opened hfree)

theorem State.Change.directoryLaws {s t : State} (hc : s.Change t) (h : s.directoryLaws) :
    t.directoryLaws := by
  cases hc with
  | nothing => exact h
  | spentRefusal d =>
    exact (State.directoryLawsWith_shaped _ d).1
      (((s.directoryLawsWith_shaped d).2 h).reportSpent fun _ he => he)
  | grantedAtOnce i x d e mode l hx he hc hs hl hg => exact (h.granted he hg).allocate _ _
  | enqueued i x d e mode limit l hx he hc hs hl hg => exact (h.enqueued _ he hg).allocate _ _
  | freed l => exact h.freeRecord l
  | freedAll records => exact foldl_preserves _ _ (fun _ l hs => hs.freeRecord l) _ h
  | lapsed i x cause lines =>
    exact foldl_preserves State.directoryLaws _ (fun _ l hs => hs.teardownRecord l lines) x.records
      (State.directoryLaws_congr (s.tables_modifySession i _) h)
  | renewed l r p hr hs => exact h
  | retired l => exact h.retireRecord l
  | warned l r p hr hs => exact h
  | revoked l r cause lines hr hl => exact h.revokeEnding l cause lines
  | forced i lines => exact foldl_preserves _ _ (fun _ l hs => hs.revokeEnding l .forced lines) _ h
  | waitEnded l r hr hs => exact (h.endRecord l _).leaveQueue _ _
  | defined i a hi hk ht hp hf hl => exact h.defined hk ht hp hf hl
  | amended i e a he ht hp hl => exact h.amended he ht hp hl
  | deleted i e he hs hn => exact h.vacate i
  | accepted i e he hs => exact h.freed he (Entry.followedBy_of_settings rfl)
  | retried i e t he hs ht =>
    exact (h.setEntry he e.followedBy_enterFencing e.shaped_enterFencing).fails ht
  | profileSet n p hp => exact h.profileSet hp
  | busFailed u t hu ht => exact (h.fails hu).fails ht
  | busSettled u t hu ht => exact (State.directoryLaws_congr hu h).settleHead.fails ht
  | warmReset t ht => exact h.warmReset.fails ht
  | coldReset low adr => exact State.directoryLaws_of_vacant (s.entry_coldReset low adr)

/-- Settles O54: each change of the tables keeps the laws of the directory. -/
theorem stepsKeepTheDirectoryLaws : Obligations.StepsKeepTheDirectoryLaws := by
  intro s t h hstep
  obtain ⟨rest, v, hv, ht⟩ := step_changes hstep
  exact State.directoryLaws_congr ht (hv.directoryLaws h)

end Sys2Proof.Machine
end

section
/-! SUPPORT. The laws between records and entries, slot by slot. While a grant check is due on an entry,
the law of the head of its queue (R50) is not asked of it. -/

namespace Sys2Proof.Machine

/-! ### Live records -/

theorem LeaseRecord.live_iff {r : LeaseRecord} :
    r.live = true ↔ r.state = .active ∨ r.state = .warned := by
  simp [LeaseRecord.live]

theorem LeaseRecord.live_of_state {r : LeaseRecord} (hw : r.state ≠ .waiting) (he : r.state ≠ .ended) :
    r.live = true := by
  rw [LeaseRecord.live_iff]
  cases hs : r.state <;> simp_all

theorem LeaseRecord.not_waiting_of_live {r : LeaseRecord} (h : r.live = true) : r.state ≠ .waiting := by
  rcases LeaseRecord.live_iff.1 h with h | h <;> simp [h]

theorem LeaseRecord.not_ended_of_live {r : LeaseRecord} (h : r.live = true) : r.state ≠ .ended := by
  rcases LeaseRecord.live_iff.1 h with h | h <;> simp [h]

theorem State.mem_liveOn {s : State} {i : DirSlot} {l : LeaseSlot} :
    l ∈ s.liveOn i ↔ ∃ r, s.record l = some r ∧ r.live = true ∧ r.resource = i := by
  simp only [State.liveOn, List.mem_filter, List.mem_finRange, true_and, Option.any_eq_true,
    Bool.and_eq_true, decide_eq_true_eq]

theorem State.liveOn_nodup (s : State) (i : DirSlot) : (s.liveOn i).Nodup :=
  (List.nodup_finRange 128).filter _

theorem State.liveOn_length_eq {s t : State} {i : DirSlot}
    (h : ∀ k, k ∈ t.liveOn i ↔ k ∈ s.liveOn i) : (t.liveOn i).length = (s.liveOn i).length :=
  ((List.perm_ext_iff_of_nodup (t.liveOn_nodup i) (s.liveOn_nodup i)).2 h).length_eq

/-- One live record more. -/
theorem State.liveOn_length_succ {s t : State} {i : DirSlot} {l : LeaseSlot} (hl : l ∉ s.liveOn i)
    (h : ∀ k, k ∈ t.liveOn i ↔ k = l ∨ k ∈ s.liveOn i) :
    (t.liveOn i).length = (s.liveOn i).length + 1 := by
  have hperm : (t.liveOn i).Perm (l :: s.liveOn i) :=
    (List.perm_ext_iff_of_nodup (t.liveOn_nodup i) (List.nodup_cons.2 ⟨hl, s.liveOn_nodup i⟩)).2
      fun k => by rw [h, List.mem_cons]
  exact hperm.length_eq

/-! ### The laws, slot by slot -/

/-- Lease slot `l` waits on directory slot `i`. -/
def State.waitsOn (s : State) (i : DirSlot) (l : LeaseSlot) : Prop :=
  ∃ r, s.record l = some r ∧ r.state = .waiting ∧ r.resource = i

/-- Entry `e` says what the records that name slot `i` ask of it (R3, R6, R26), but for R50. -/
structure State.Suits (s : State) (i : DirSlot) (e : Entry) : Prop where
  nodup : e.queue.Nodup
  waiting : ∀ l, l ∈ e.queue ↔ s.waitsOn i l
  holders : e.holders = (s.liveOn i).length
  shared : ∀ l r, s.record l = some r → r.resource = i → r.live = true → r.mode = .shared →
    e.state = .heldShared
  exclusive : ∀ l r, s.record l = some r → r.resource = i → r.live = true → r.mode = .exclusive →
    e.state = .heldExclusive ∧ e.exclusiveHolder = some l
  generation : e.generation ≠ 0
  unspent : e.state = .heldExclusive → e.generation ≠ 0xFFFFFFFF

/-- R50: the head of the queue of a HELD_SHARED entry asks for EXCLUSIVE. -/
def State.headFits (s : State) (e : Entry) : Prop :=
  e.state = .heldShared → ∀ l r, e.queue.head? = some l → s.record l = some r → r.mode = .exclusive

/-- R42: a session has one claim on a resource. -/
def State.claimsOnce (s : State) : Prop :=
  ∀ l k r q, s.record l = some r → s.record k = some q → r.state ≠ .ended → q.state ≠ .ended →
    r.session = q.session → r.resource = q.resource → l = k

/-- The laws of records and entries, but that R50 is not asked of slot `i`, where a grant check is due. -/
structure State.RecordLawsBut (s : State) (i : DirSlot) : Prop where
  shapes : ∀ l r, s.record l = some r → r.shaped ∧ ∃ e, s.entry r.resource = some e
  suits : ∀ j e, s.entry j = some e → s.Suits j e
  heads : ∀ j e, j ≠ i → s.entry j = some e → s.headFits e
  once : s.claimsOnce

theorem LeaseRecord.fits_iff {r : LeaseRecord} {l : LeaseSlot} {e : Entry} : r.fits l e ↔
    (r.state = .waiting → l ∈ e.queue) ∧
    (r.live = true → r.mode = .shared → e.state = .heldShared) ∧
    (r.live = true → r.mode = .exclusive → e.state = .heldExclusive ∧ e.exclusiveHolder = some l) := by
  unfold LeaseRecord.fits
  cases hs : r.state <;> cases hm : r.mode <;> simp [LeaseRecord.live, hs]

theorem State.recordLaws_iff (s : State) (i : DirSlot) :
    s.recordLaws ↔ s.RecordLawsBut i ∧ ∀ e, s.entry i = some e → s.headFits e := by
  constructor
  · rintro ⟨hrec, hent, honce⟩
    refine ⟨⟨fun l r hr => ?_, fun j e he => ?_, fun j e _ he => ?_, honce⟩, fun e he => ?_⟩
    · obtain ⟨hs, e, he, -⟩ := hrec l r hr
      exact ⟨hs, e, he⟩
    · obtain ⟨hnodup, hholders, hgen, hunspent, hqueue, -⟩ := hent j e he
      have hfit : ∀ l r, s.record l = some r → r.resource = j → r.fits l e := by
        rintro l r hr rfl
        obtain ⟨-, f, hf, hfit⟩ := hrec l r hr
        cases he.symm.trans hf
        exact hfit
      refine ⟨hnodup, fun l => ⟨hqueue l, ?_⟩, hholders, fun l r hr hj hl hm => ?_,
        fun l r hr hj hl hm => ?_, hgen, hunspent⟩
      · rintro ⟨r, hr, hw, hj⟩
        exact (LeaseRecord.fits_iff.1 (hfit l r hr hj)).1 hw
      · exact (LeaseRecord.fits_iff.1 (hfit l r hr hj)).2.1 hl hm
      · exact (LeaseRecord.fits_iff.1 (hfit l r hr hj)).2.2 hl hm
    · exact (hent j e he).2.2.2.2.2
    · exact (hent i e he).2.2.2.2.2
  · rintro ⟨h, hhead⟩
    have hheads : ∀ j e, s.entry j = some e → s.headFits e := by
      intro j e he
      by_cases hj : j = i
      · subst hj
        exact hhead e he
      · exact h.heads j e hj he
    refine ⟨fun l r hr => ?_, fun j e he => ?_, h.once⟩
    · obtain ⟨hs, e, he⟩ := h.shapes l r hr
      have hsuits := h.suits _ e he
      exact ⟨hs, e, he, LeaseRecord.fits_iff.2 ⟨fun hw => (hsuits.waiting l).2 ⟨r, hr, hw, rfl⟩,
        hsuits.shared l r hr rfl, hsuits.exclusive l r hr rfl⟩⟩
    · have hsuits := h.suits j e he
      exact ⟨hsuits.nodup, hsuits.holders, hsuits.generation, hsuits.unspent,
        fun l => (hsuits.waiting l).1, hheads j e he⟩

theorem State.recordLaws.but {s : State} (h : s.recordLaws) (i : DirSlot) : s.RecordLawsBut i :=
  ((s.recordLaws_iff i).1 h).1

theorem State.recordLaws.suits {s : State} (h : s.recordLaws) {i : DirSlot} {e : Entry}
    (he : s.entry i = some e) : s.Suits i e := (h.but i).suits i e he

theorem State.recordLaws.headFits {s : State} (h : s.recordLaws) {i : DirSlot} {e : Entry}
    (he : s.entry i = some e) : s.headFits e := ((s.recordLaws_iff i).1 h).2 e he

theorem State.recordLaws.entry {s : State} (h : s.recordLaws) {l : LeaseSlot} {r : LeaseRecord}
    (hr : s.record l = some r) : ∃ e, s.entry r.resource = some e := ((h.but 0).shapes l r hr).2

theorem State.recordLaws.shaped {s : State} (h : s.recordLaws) {l : LeaseSlot} {r : LeaseRecord}
    (hr : s.record l = some r) : r.shaped := ((h.but 0).shapes l r hr).1

theorem State.headFits_of_state {s : State} {e : Entry} (h : e.state ≠ .heldShared) : s.headFits e :=
  fun hs => absurd hs h

/-- The laws at slot `i` without R50, and R50 there. -/
theorem State.RecordLawsBut.recordLaws {s : State} {i : DirSlot} (h : s.RecordLawsBut i) {e : Entry}
    (he : s.entry i = some e) (hh : s.headFits e) : s.recordLaws :=
  (s.recordLaws_iff i).2 ⟨h, fun f hf => by rw [he] at hf; cases hf; exact hh⟩

/-! ### States whose records on a slot are the same -/

/-- The records that name slot `j` are the same in both states. -/
def State.sameOn (s t : State) (j : DirSlot) : Prop :=
  ∀ k r, r.resource = j → (t.record k = some r ↔ s.record k = some r)

theorem State.Suits.of_sameOn {s t : State} {j : DirSlot} {e : Entry} (h : s.Suits j e)
    (hst : s.sameOn t j) : t.Suits j e := by
  refine ⟨h.nodup, fun l => (h.waiting l).trans ?_, h.holders.trans (State.liveOn_length_eq ?_),
    fun l r hr hj => h.shared l r ((hst l r hj).1 hr) hj,
    fun l r hr hj => h.exclusive l r ((hst l r hj).1 hr) hj, h.generation, h.unspent⟩
  · exact exists_congr fun r => ⟨fun ⟨hr, hw, hj⟩ => ⟨(hst l r hj).2 hr, hw, hj⟩,
      fun ⟨hr, hw, hj⟩ => ⟨(hst l r hj).1 hr, hw, hj⟩⟩
  · intro k
    simp only [State.mem_liveOn]
    exact exists_congr fun r => ⟨fun ⟨hr, hw, hj⟩ => ⟨(hst k r hj).2 hr, hw, hj⟩,
      fun ⟨hr, hw, hj⟩ => ⟨(hst k r hj).1 hr, hw, hj⟩⟩

theorem State.headFits.of_sameOn {s t : State} {j : DirSlot} {e : Entry} (h : s.headFits e)
    (hs : s.Suits j e) (hst : s.sameOn t j) : t.headFits e := by
  intro hst' l r hl hr
  obtain ⟨q, hq, -, hj⟩ := (hs.waiting l).1 (List.mem_of_mem_head? hl)
  cases hr.symm.trans ((hst l q hj).2 hq)
  exact h hst' l _ hl hq

theorem State.sameOn_of_record {s t : State} (h : ∀ k, t.record k = s.record k) (j : DirSlot) :
    s.sameOn t j := fun k r _ => by rw [h k]

theorem State.Suits.setEntry {s : State} {j : DirSlot} {f : Entry} (h : s.Suits j f) (i : DirSlot)
    (e : Option Entry) : (s.setEntry i e).Suits j f :=
  h.of_sameOn (State.sameOn_of_record (fun _ => rfl) j)

/-! ### The laws after a change at one slot -/

/-- Every claim of `t` is one of `s`. -/
def State.claimsFrom (s t : State) : Prop :=
  ∀ k r, t.record k = some r → r.state ≠ .ended →
    ∃ q, s.record k = some q ∧ q.state ≠ .ended ∧ q.session = r.session ∧ q.resource = r.resource

theorem State.claimsOnce.of_claimsFrom {s t : State} (h : s.claimsOnce) (hst : s.claimsFrom t) :
    t.claimsOnce := by
  intro l k r q hr hq hrs hqs hsess hres
  obtain ⟨r', hr', hrs', hrsess, hrres⟩ := hst l r hr hrs
  obtain ⟨q', hq', hqs', hqsess, hqres⟩ := hst k q hq hqs
  exact h l k r' q' hr' hq' hrs' hqs' (by rw [hrsess, hqsess, hsess]) (by rw [hrres, hqres, hres])

/-- The entry of slot `i` and the record of lease slot `l`, which names `i` before and after, change. -/
theorem State.RecordLawsBut.update {s t : State} {i : DirSlot} {l : LeaseSlot} (h : s.RecordLawsBut i)
    (hent : ∀ j, j ≠ i → t.entry j = s.entry j) (hrec : ∀ k, k ≠ l → t.record k = s.record k)
    (hold : ∀ r, s.record l = some r → r.resource = i)
    (hnew : ∀ r, t.record l = some r → r.resource = i ∧ r.shaped) (honce : t.claimsOnce) {f : Entry}
    (hf : t.entry i = some f) (hs : t.Suits i f) : t.RecordLawsBut i := by
  have hsame : ∀ j, j ≠ i → s.sameOn t j := by
    intro j hj k r hr
    by_cases hk : k = l
    · subst hk
      exact ⟨fun hk => absurd (hr.symm.trans (hnew r hk).1) hj,
        fun hk => absurd (hr.symm.trans (hold r hk)) hj⟩
    · rw [hrec k hk]
  refine ⟨fun k r hr => ?_, fun j e he => ?_, fun j e hj he => ?_, honce⟩
  · by_cases hk : k = l
    · subst hk
      obtain ⟨hri, hrs⟩ := hnew r hr
      exact ⟨hrs, f, by rw [hri, hf]⟩
    · rw [hrec k hk] at hr
      obtain ⟨hrs, e, he⟩ := h.shapes k r hr
      refine ⟨hrs, ?_⟩
      by_cases hri : r.resource = i
      · exact ⟨f, by rw [hri, hf]⟩
      · exact ⟨e, by rw [hent _ hri, he]⟩
  · by_cases hj : j = i
    · subst hj
      cases hf.symm.trans he
      exact hs
    · rw [hent j hj] at he
      exact (h.suits j e he).of_sameOn (hsame j hj)
  · rw [hent j hj] at he
    exact (h.heads j e hj he).of_sameOn (h.suits j e he) (hsame j hj)

/-- The entry of slot `i` alone changes. -/
theorem State.RecordLawsBut.setEntry {s : State} {i : DirSlot} (h : s.RecordLawsBut i) {f : Entry}
    (hs : s.Suits i f) : (s.setEntry i (some f)).RecordLawsBut i := by
  have hent : ∀ j, j ≠ i → (s.setEntry i (some f)).entry j = s.entry j := fun j hj => by
    rw [State.entry_setEntry, if_neg hj]
  refine ⟨fun k r hr => ?_, fun j e he => ?_, fun j e hj he => ?_, h.once⟩
  · obtain ⟨hrs, e, he⟩ := h.shapes k r hr
    refine ⟨hrs, ?_⟩
    rw [State.entry_setEntry]
    split
    · exact ⟨f, rfl⟩
    · exact ⟨e, he⟩
  · rw [State.entry_setEntry] at he
    split at he
    · next hj =>
      cases he
      subst hj
      exact hs.setEntry _ _
    · exact (h.suits j e he).setEntry _ _
  · rw [hent j hj] at he
    exact h.heads j e hj he

theorem State.RecordLawsBut.congr {s t : State} {i : DirSlot} (h : s.RecordLawsBut i)
    (ht : t.tables = s.tables) : t.RecordLawsBut i := by
  have hsame := State.sameOn_of_record (State.record_congr ht)
  refine ⟨fun k r hr => ?_, fun j e he => ?_, fun j e hj he => ?_, fun l k r q hr hq => ?_⟩
  · rw [State.record_congr ht] at hr
    rw [State.entry_congr ht]
    exact h.shapes k r hr
  · rw [State.entry_congr ht] at he
    exact (h.suits j e he).of_sameOn (hsame j)
  · rw [State.entry_congr ht] at he
    exact (h.heads j e hj he).of_sameOn (h.suits j e he) (hsame j)
  · rw [State.record_congr ht] at hr hq
    exact h.once l k r q hr hq

theorem State.recordLaws.congr {s t : State} (h : s.recordLaws) (ht : t.tables = s.tables) :
    t.recordLaws := by
  refine (t.recordLaws_iff 0).2 ⟨(h.but 0).congr ht, fun e he => ?_⟩
  rw [State.entry_congr ht] at he
  exact (h.headFits he).of_sameOn (h.suits he) (State.sameOn_of_record (State.record_congr ht) 0)

/-- An entry that differs in nothing that the records speak of. -/
theorem State.Suits.of_standing {s : State} {i : DirSlot} {e f : Entry} (h : s.Suits i e)
    (hst : f.state = e.state) (hq : f.queue = e.queue) (hh : f.holders = e.holders)
    (hx : f.exclusiveHolder = e.exclusiveHolder) (hg : f.generation = e.generation) : s.Suits i f := by
  refine ⟨?_, ?_, ?_, ?_, ?_, ?_, ?_⟩ <;> simp only [hst, hq, hh, hx, hg]
  exacts [h.nodup, h.waiting, h.holders, h.shared, h.exclusive, h.generation, h.unspent]

/-- The laws after a write of the entry of slot `i` that keeps R50 there. -/
theorem State.recordLaws.setEntry {s : State} {i : DirSlot} (h : s.recordLaws) {f : Entry}
    (hs : s.Suits i f) (hh : s.headFits f) : (s.setEntry i (some f)).recordLaws :=
  ((h.but i).setEntry hs).recordLaws (State.entry_setEntry_self _ _ _) hh

/-! ### Entries that no record holds -/

theorem State.Suits.no_live {s : State} {i : DirSlot} {e : Entry} (h : s.Suits i e)
    (hs : e.state ≠ .heldShared) (hx : e.state ≠ .heldExclusive) : s.liveOn i = [] := by
  refine List.eq_nil_iff_forall_not_mem.2 fun l hl => ?_
  obtain ⟨r, hr, hlive, hi⟩ := State.mem_liveOn.1 hl
  cases hm : r.mode with
  | shared => exact hs (h.shared l r hr hi hlive hm)
  | exclusive => exact hx (h.exclusive l r hr hi hlive hm).1

/-- An entry that no live record names, with no holder. -/
theorem State.suits_of_no_live {s : State} {i : DirSlot} {f : Entry} (hn : f.queue.Nodup)
    (hw : ∀ l, l ∈ f.queue ↔ s.waitsOn i l) (hl : s.liveOn i = []) (hh : f.holders = 0)
    (hg : f.generation ≠ 0) (hx : f.state ≠ .heldExclusive) : s.Suits i f := by
  have hnone : ∀ l r, s.record l = some r → r.resource = i → r.live = true → False := by
    intro l r hr hi hlive
    have := State.mem_liveOn.2 ⟨r, hr, hlive, hi⟩
    simp [hl] at this
  exact ⟨hn, hw, by simp [hl, hh], fun l r hr hi hlive => (hnone l r hr hi hlive).elim,
    fun l r hr hi hlive => (hnone l r hr hi hlive).elim, hg, fun hs => absurd hs hx⟩

/-- Where no record holds the entry, it may stand in any state in which no record has to hold it. -/
theorem State.Suits.emptied {s : State} {i : DirSlot} {e f : Entry} (h : s.Suits i e)
    (hs : e.state ≠ .heldShared) (hx : e.state ≠ .heldExclusive) (hq : f.queue = e.queue)
    (hh : f.holders = 0) (hg : f.generation = e.generation) (hfx : f.state ≠ .heldExclusive) :
    s.Suits i f :=
  State.suits_of_no_live (hq ▸ h.nodup) (fun l => hq ▸ h.waiting l) (h.no_live hs hx) hh
    (hg ▸ h.generation) hfx

theorem State.recordLaws.fails {s t : State} (h : s.recordLaws) (ht : s.Fails t) : t.recordLaws := by
  cases ht with
  | kept ht => exact h.congr ht
  | failed i e he hs ht =>
    have hsuits := h.suits he
    refine State.recordLaws.congr (h.setEntry (f := { e with state := .fenceFailed })
      (hsuits.emptied (by simp [hs]) (by simp [hs]) rfl ?_ rfl (by simp))
      (State.headFits_of_state (by simp))) ht
    rw [hsuits.holders, hsuits.no_live (by simp [hs]) (by simp [hs])]
    rfl

theorem State.recordLaws.reportSpent {s : State} (h : s.recordLaws) (i : DirSlot) :
    (s.reportSpent i).recordLaws := by
  unfold State.reportSpent
  split
  · exact h
  · next e he =>
    split
    · exact h
    · have hh : s.headFits { e with spentReported := true } := h.headFits (e := e) he
      have hs : s.Suits i { e with spentReported := true } :=
        (h.suits he).of_standing rfl rfl rfl rfl rfl
      exact (h.setEntry hs hh).congr rfl

theorem State.RecordLawsBut.reportSpent {s : State} {i : DirSlot} (h : s.RecordLawsBut i) :
    (s.reportSpent i).RecordLawsBut i := by
  unfold State.reportSpent
  split
  · exact h
  · next e he =>
    split
    · exact h
    · have hs : s.Suits i { e with spentReported := true } :=
        (h.suits i e he).of_standing rfl rfl rfl rfl rfl
      exact (h.setEntry hs).congr rfl

/-! ### Generations that advance (R6) -/

/-- Entries stay defined with generations that do not fall, and an EXCLUSIVE token of `t` that its record
did not hold in `s` is greater than the generation that its entry had. -/
structure State.Advances (s t : State) : Prop where
  generation : ∀ i e, s.entry i = some e →
    ∃ f, t.entry i = some f ∧ e.generation.toNat ≤ f.generation.toNat
  token : ∀ l r g, t.record l = some r → r.mode = .exclusive → r.token = some g →
    (∃ q, s.record l = some q ∧ q.resource = r.resource ∧ q.mode = .exclusive ∧ q.token = some g) ∨
    ∀ e, s.entry r.resource = some e → e.generation.toNat < g.toNat

theorem State.advances_of_same {s t : State} (he : ∀ i, t.entry i = s.entry i)
    (hr : ∀ l, t.record l = s.record l) : s.Advances t :=
  ⟨fun i e hi => ⟨e, by rw [he, hi], le_refl _⟩,
    fun l r _ h hm hg => .inl ⟨r, by rw [← hr, h], rfl, hm, hg⟩⟩

theorem State.advances_of_tables {s t : State} (h : t.tables = s.tables) : s.Advances t :=
  State.advances_of_same (State.entry_congr h) (State.record_congr h)

theorem State.Advances.trans {s t u : State} (h : s.Advances t) (k : t.Advances u) : s.Advances u := by
  refine ⟨fun i e he => ?_, fun l r g hr hm hg => ?_⟩
  · obtain ⟨f, hf, hle⟩ := h.generation i e he
    obtain ⟨g, hg, hle'⟩ := k.generation i f hf
    exact ⟨g, hg, hle.trans hle'⟩
  · rcases k.token l r g hr hm hg with ⟨q, hq, hqi, hqm, hqt⟩ | hlt
    · rw [← hqi]
      exact h.token l q g hq hqm hqt
    · refine .inr fun e he => ?_
      obtain ⟨f, hf, hle⟩ := h.generation _ e he
      exact hle.trans_lt (hlt f hf)

theorem State.advances_setEntry {s : State} {i : DirSlot} {e f : Entry} (he : s.entry i = some e)
    (hg : e.generation.toNat ≤ f.generation.toNat) : s.Advances (s.setEntry i (some f)) := by
  refine ⟨fun j g hj => ?_, fun l r _ h hm hg => .inl ⟨r, h, rfl, hm, hg⟩⟩
  rw [State.entry_setEntry]
  split
  · next hji =>
    subst hji
    cases he.symm.trans hj
    exact ⟨f, rfl, hg⟩
  · exact ⟨g, hj, le_refl _⟩

theorem State.advances_setRecord {s : State} {l : LeaseSlot} {r : LeaseRecord}
    (hr : s.record l = some r) {q : Option LeaseRecord}
    (hq : ∀ x, q = some x → x.resource = r.resource ∧ x.mode = r.mode ∧ x.token = r.token) :
    s.Advances (s.setRecord l q) := by
  refine ⟨fun j g hj => ⟨g, hj, le_refl _⟩, fun k x g hx hm hg => .inl ?_⟩
  rw [State.record_setRecord] at hx
  split at hx
  · next hk =>
    obtain ⟨hxi, hxm, hxt⟩ := hq x hx
    exact ⟨r, hk ▸ hr, hxi.symm, hxm.symm.trans hm, hxt.symm.trans hg⟩
  · exact ⟨x, hx, rfl, hm, hg⟩

theorem State.Fails.advances {s t : State} (h : s.Fails t) : s.Advances t := by
  cases h with
  | kept h => exact State.advances_of_tables h
  | failed i e he hs h =>
    exact (State.advances_setEntry (f := { e with state := .fenceFailed }) he (le_refl _)).trans
      (State.advances_of_tables h)

theorem State.advances_reportSpent (s : State) (i : DirSlot) : s.Advances (s.reportSpent i) := by
  unfold State.reportSpent
  split
  · exact State.advances_of_tables rfl
  · next e he =>
    split
    · exact State.advances_of_tables rfl
    · exact (State.advances_setEntry (f := { e with spentReported := true }) he (le_refl _)).trans
        (State.advances_of_tables rfl)

/-- An entry that is not spent advances by a grant in EXCLUSIVE mode, and not by one in SHARED mode. -/
theorem Entry.generation_granted {e : Entry} {mode : LeaseMode}
    (hs : ¬ (mode = .exclusive ∧ e.spent = true)) (l : LeaseSlot) :
    e.generation.toNat ≤ (e.granted l mode).generation.toNat ∧
      (mode = .exclusive → e.generation.toNat < (e.granted l mode).generation.toNat) := by
  cases mode with
  | shared => exact ⟨le_refl _, by simp⟩
  | exclusive =>
    have hlt : e.generation.toNat < (e.generation + 1).toNat := by
      have : e.generation ≠ 0xFFFFFFFE ∧ e.generation ≠ 0xFFFFFFFF := by simpa [Entry.spent] using hs
      bv_omega
    exact ⟨hlt.le, fun _ => hlt⟩

/-- A grant on slot `i`: the record names the slot, and its token is the entry's generation (R6, R27). -/
theorem State.advances_granted {s t : State} {i : DirSlot} {l : LeaseSlot} {e f : Entry}
    {q : LeaseRecord} {mode : LeaseMode} (he : s.entry i = some e)
    (hf : f.generation = e.generation ∧ f.spent = e.spent)
    (hent : ∀ j, t.entry j = if j = i then some (f.granted l mode) else s.entry j)
    (hrec : ∀ k, t.record k = if k = l then some q else s.record k) (hqi : q.resource = i)
    (hqm : q.mode = mode) (hqt : q.token = some (f.granted l mode).generation)
    (hs : ¬ (mode = .exclusive ∧ e.spent = true)) : s.Advances t := by
  obtain ⟨hfg, hfs⟩ := hf
  obtain ⟨hle, hlt⟩ := Entry.generation_granted (hfs ▸ hs) l
  rw [hfg] at hle hlt
  refine ⟨fun j g hj => ?_, fun k x g hx hm hg => ?_⟩
  · rw [hent]
    split
    · next hji =>
      subst hji
      cases he.symm.trans hj
      exact ⟨_, rfl, hle⟩
    · exact ⟨g, hj, le_refl _⟩
  · rw [hrec] at hx
    split at hx
    · cases hx
      cases hqt.symm.trans hg
      refine .inr fun e' he' => ?_
      rw [hqi] at he'
      cases he.symm.trans he'
      exact hlt (hqm.symm.trans hm)
    · exact .inl ⟨x, hx, rfl, hm, hg⟩

/-! ### A record that leaves its entry -/

/-- What is left in the slot of record `r` when it gives up its resource: nothing, or an ENDED record with
its token. -/
def LeaseRecord.leaves (r : LeaseRecord) (q : Option LeaseRecord) : Prop :=
  ∀ x, q = some x → x.state = .ended ∧ x.shaped ∧ x.resource = r.resource ∧ x.mode = r.mode ∧
    x.token = r.token

theorem LeaseRecord.leaves_none (r : LeaseRecord) : r.leaves none := fun _ h => nomatch h

theorem LeaseRecord.leaves_endedWith (r : LeaseRecord) (c : EndCause) (p : Priority) :
    r.leaves (some (r.endedWith c p)) := by
  intro x hx
  cases hx
  simp [LeaseRecord.endedWith, LeaseRecord.shaped]

theorem State.tables_vacateRecord (s : State) {l : LeaseSlot} {r : LeaseRecord}
    (hr : s.record l = some r) : (s.vacateRecord l).tables = (s.setRecord l none).tables := by
  unfold State.vacateRecord State.modifySession
  simp only [hr]
  split <;> rfl

theorem State.endRecord_some (s : State) {l : LeaseSlot} {r : LeaseRecord} (hr : s.record l = some r)
    (c : EndCause) :
    s.endRecord l c = s.setRecord l (some (r.endedWith c (s.priorityOf r.resource))) := by
  simp only [State.endRecord, hr]

section Leaving

variable {s u : State} {l : LeaseSlot} {r : LeaseRecord} {q : Option LeaseRecord} {e : Entry}

theorem State.record_of_left (hu : u.tables = (s.setRecord l q).tables) (k : LeaseSlot) :
    u.record k = if k = l then q else s.record k := by
  rw [State.record_congr hu, State.record_setRecord]

theorem State.waitsOn_of_left (hq : r.leaves q) (hu : u.tables = (s.setRecord l q).tables)
    (i : DirSlot) (k : LeaseSlot) : u.waitsOn i k ↔ k ≠ l ∧ s.waitsOn i k := by
  unfold State.waitsOn
  rw [State.record_of_left hu]
  split
  · next hk =>
    simp only [hk, ne_eq, not_true_eq_false, false_and, iff_false]
    rintro ⟨x, hx, hw, -⟩
    simp [(hq x hx).1] at hw
  · next hk => simp [hk]

theorem State.mem_liveOn_of_left (hq : r.leaves q) (hu : u.tables = (s.setRecord l q).tables)
    (i : DirSlot) (k : LeaseSlot) : k ∈ u.liveOn i ↔ k ≠ l ∧ k ∈ s.liveOn i := by
  simp only [State.mem_liveOn, State.record_of_left hu]
  split
  · next hk =>
    simp only [hk, ne_eq, not_true_eq_false, false_and, iff_false]
    rintro ⟨x, hx, hlive, -⟩
    exact LeaseRecord.not_ended_of_live hlive (hq x hx).1
  · next hk => simp [hk]

theorem State.claimsFrom_of_left (hq : r.leaves q) (hu : u.tables = (s.setRecord l q).tables) :
    s.claimsFrom u := by
  intro k x hx hs
  rw [State.record_of_left hu] at hx
  split at hx
  · exact absurd (hq x hx).1 hs
  · exact ⟨x, hx, hs, rfl, rfl⟩

theorem State.advances_left (hr : s.record l = some r) (hq : r.leaves q)
    (hu : u.tables = (s.setRecord l q).tables) : s.Advances u :=
  (State.advances_setRecord hr fun x hx => (hq x hx).2.2).trans (State.advances_of_tables hu)

/-- The record has left, and its entry is replaced by one that suits the records that are left. -/
theorem State.RecordLawsBut.left (h : s.RecordLawsBut r.resource) (hr : s.record l = some r) (hq : r.leaves q)
    (hu : u.tables = (s.setRecord l q).tables) {f : Entry} (hf : u.Suits r.resource f) :
    (u.setEntry r.resource (some f)).RecordLawsBut r.resource := by
  refine h.update (l := l) (fun j hj => ?_) (fun k hk => ?_) (fun x hx => ?_)
    (fun x hx => ?_) ?_ (State.entry_setEntry_self _ _ _) (hf.setEntry _ _)
  · rw [State.entry_setEntry, if_neg hj, State.entry_congr hu, State.entry_setRecord]
  · rw [State.record_setEntry, State.record_of_left hu, if_neg hk]
  · cases hr.symm.trans hx
    rfl
  · rw [State.record_setEntry, State.record_of_left hu, if_pos rfl] at hx
    obtain ⟨-, hs, hi, -⟩ := hq x hx
    exact ⟨hi, hs⟩
  · have honce : u.claimsOnce := h.once.of_claimsFrom (State.claimsFrom_of_left hq hu)
    exact honce

/-- A record that was not live or waiting leaves no trace. -/
theorem State.recordLaws.ended_left (h : s.recordLaws) (hr : s.record l = some r)
    (hs : r.state = .ended) : (s.setRecord l none).recordLaws := by
  obtain ⟨e, he⟩ := h.entry hr
  have hsuits := h.suits he
  have hu : (s.setRecord l none).tables = (s.setRecord l none).tables := rfl
  have hwaits : ∀ k, (s.setRecord l none).waitsOn r.resource k ↔ s.waitsOn r.resource k := by
    intro k
    rw [State.waitsOn_of_left r.leaves_none hu]
    refine ⟨And.right, fun hw => ⟨?_, hw⟩⟩
    rintro rfl
    obtain ⟨x, hx, hxs, -⟩ := hw
    cases hr.symm.trans hx
    simp [hs] at hxs
  have hlive : ∀ k, k ∈ (s.setRecord l none).liveOn r.resource ↔ k ∈ s.liveOn r.resource := by
    intro k
    rw [State.mem_liveOn_of_left r.leaves_none hu]
    refine ⟨And.right, fun hw => ⟨?_, hw⟩⟩
    rintro rfl
    obtain ⟨x, hx, hxl, -⟩ := State.mem_liveOn.1 hw
    cases hr.symm.trans hx
    exact LeaseRecord.not_ended_of_live hxl hs
  have hrec : ∀ k x, (s.setRecord l none).record k = some x → s.record k = some x := by
    intro k x hx
    rw [State.record_setRecord] at hx
    split at hx
    · cases hx
    · exact hx
  have hsuits' : (s.setRecord l none).Suits r.resource e :=
    ⟨hsuits.nodup, fun k => (hsuits.waiting k).trans (hwaits k).symm,
      hsuits.holders.trans (State.liveOn_length_eq hlive).symm,
      fun k x hx => hsuits.shared k x (hrec k x hx), fun k x hx => hsuits.exclusive k x (hrec k x hx),
      hsuits.generation, hsuits.unspent⟩
  have hbut := (h.but _).left hr r.leaves_none hu hsuits'
  rw [show some e = (s.setRecord l none).entry r.resource from he.symm, State.setEntry_entry] at hbut
  refine hbut.recordLaws he fun hst k x hk hx => h.headFits he hst k x hk (hrec k x hx)

/-- The only live record leaves: the entry stands with no holder. -/
theorem State.Suits.left_alone (h : s.Suits r.resource e) (hr : s.record l = some r)
    (hlive : r.live = true) (hq : r.leaves q) (hu : u.tables = (s.setRecord l q).tables)
    (halone : ∀ k, k ∈ s.liveOn r.resource → k = l) {f : Entry} (hfq : f.queue = e.queue)
    (hh : f.holders = 0) (hg : f.generation ≠ 0) (hx : f.state ≠ .heldExclusive) :
    u.Suits r.resource f := by
  refine State.suits_of_no_live (hfq ▸ h.nodup) (fun k => ?_) ?_ hh hg hx
  · rw [hfq, h.waiting, State.waitsOn_of_left hq hu]
    refine ⟨fun hw => ⟨?_, hw⟩, And.right⟩
    rintro rfl
    obtain ⟨x, hx, hxs, -⟩ := hw
    cases hr.symm.trans hx
    exact LeaseRecord.not_waiting_of_live hlive hxs
  · refine List.eq_nil_iff_forall_not_mem.2 fun k hk => ?_
    obtain ⟨hkl, hk⟩ := (State.mem_liveOn_of_left hq hu _ k).1 hk
    exact hkl (halone k hk)

/-- One of several SHARED records leaves. -/
theorem State.Suits.left_shared (h : s.Suits r.resource e) (hr : s.record l = some r)
    (hlive : r.live = true) (hm : r.mode = .shared) (hq : r.leaves q)
    (hu : u.tables = (s.setRecord l q).tables) {x : Option LeaseSlot} :
    u.Suits r.resource { e with holders := e.holders - 1, exclusiveHolder := x } := by
  have hst := h.shared l r hr rfl hlive hm
  have hmem : l ∈ s.liveOn r.resource := State.mem_liveOn.2 ⟨r, hr, hlive, rfl⟩
  have hrec : ∀ k x, u.record k = some x → x.live = true → s.record k = some x := by
    intro k x hx hxl
    rw [State.record_of_left hu] at hx
    split at hx
    · exact absurd (hq x hx).1 (LeaseRecord.not_ended_of_live hxl)
    · exact hx
  refine ⟨h.nodup, fun k => ?_, ?_, fun k x hx hi hl hm => h.shared k x (hrec k x hx hl) hi hl hm,
    fun k x hx hi hl hm => ?_, h.generation, h.unspent⟩
  · rw [State.waitsOn_of_left hq hu]
    refine (h.waiting k).trans ⟨fun hw => ⟨?_, hw⟩, And.right⟩
    rintro rfl
    obtain ⟨y, hy, hys, -⟩ := hw
    cases hr.symm.trans hy
    exact LeaseRecord.not_waiting_of_live hlive hys
  · have hsucc : (s.liveOn r.resource).length = (u.liveOn r.resource).length + 1 := by
      refine State.liveOn_length_succ (l := l) ?_ fun k => ?_
      · rw [State.mem_liveOn_of_left hq hu]
        simp
      · rw [State.mem_liveOn_of_left hq hu]
        by_cases hk : k = l
        · simp [hk, hmem]
        · simp [hk]
    have := h.holders
    dsimp only
    omega
  · have := (h.exclusive k x (hrec k x hx hl) hi hl hm).1
    simp [hst] at this

/-- A WAITING record leaves the queue. -/
theorem State.Suits.left_queue (h : s.Suits r.resource e) (hr : s.record l = some r)
    (hw : r.state = .waiting) (hq : r.leaves q) (hu : u.tables = (s.setRecord l q).tables)
    {rest : List LeaseSlot} (hn : rest.Nodup) (hrest : ∀ k, k ∈ rest ↔ k ≠ l ∧ k ∈ e.queue) :
    u.Suits r.resource { e with queue := rest } := by
  have hrec : ∀ k x, u.record k = some x → x.live = true → s.record k = some x := by
    intro k x hx hxl
    rw [State.record_of_left hu] at hx
    split at hx
    · exact absurd (hq x hx).1 (LeaseRecord.not_ended_of_live hxl)
    · exact hx
  refine ⟨hn, fun k => ?_, h.holders.trans (State.liveOn_length_eq fun k => ?_).symm,
    fun k x hx hi hl hm => h.shared k x (hrec k x hx hl) hi hl hm,
    fun k x hx hi hl hm => h.exclusive k x (hrec k x hx hl) hi hl hm, h.generation, h.unspent⟩
  · rw [hrest, State.waitsOn_of_left hq hu, h.waiting]
  · rw [State.mem_liveOn_of_left hq hu]
    refine ⟨And.right, fun hk => ⟨?_, hk⟩⟩
    rintro rfl
    obtain ⟨y, hy, hyl, -⟩ := State.mem_liveOn.1 hk
    cases hr.symm.trans hy
    exact LeaseRecord.not_waiting_of_live hyl hw

end Leaving

end Sys2Proof.Machine
end

section
/-! SUPPORT. Every change of the tables keeps the laws between records and entries, and generations never
decrease in it. -/

namespace Sys2Proof.Machine

/-! ### What a lawful operation leads to -/

/-- The laws of the records hold in `t`, and generations have advanced from `s`. -/
structure State.LeadsTo (s t : State) : Prop where
  laws : t.recordLaws
  advances : s.Advances t

theorem State.LeadsTo.after {s t u : State} (k : t.LeadsTo u) (h : s.Advances t) : s.LeadsTo u :=
  ⟨k.laws, h.trans k.advances⟩

theorem State.leadsTo_of_tables {s t : State} (h : s.recordLaws) (ht : t.tables = s.tables) :
    s.LeadsTo t := ⟨h.congr ht, State.advances_of_tables ht⟩

theorem State.LeadsTo.congr {s t u : State} (h : s.LeadsTo t) (hu : u.tables = t.tables) :
    s.LeadsTo u := (State.leadsTo_of_tables h.laws hu).after h.advances

theorem State.LeadsTo.fails {s t u : State} (h : s.LeadsTo t) (hu : t.Fails u) : s.LeadsTo u :=
  ⟨h.laws.fails hu, h.advances.trans hu.advances⟩

/-! ### A record that enters an entry -/

section Entering

variable {s t : State} {i : DirSlot} {l : LeaseSlot} {q : LeaseRecord} {e : Entry}

theorem State.waitsOn_of_live (ht : ∀ k, t.record k = if k = l then some q else s.record k)
    (hq : q.live = true) (k : LeaseSlot) : t.waitsOn i k ↔ k ≠ l ∧ s.waitsOn i k := by
  unfold State.waitsOn
  rw [ht k]
  split
  · next hk =>
    simp only [hk, ne_eq, not_true_eq_false, false_and, iff_false]
    rintro ⟨x, hx, hw, -⟩
    cases hx
    exact LeaseRecord.not_waiting_of_live hq hw
  · next hk => simp [hk]

theorem State.mem_liveOn_of_live (ht : ∀ k, t.record k = if k = l then some q else s.record k)
    (hq : q.live = true) (hi : q.resource = i) (k : LeaseSlot) :
    k ∈ t.liveOn i ↔ k = l ∨ k ∈ s.liveOn i := by
  simp only [State.mem_liveOn, ht k]
  split
  · next hk =>
    simp only [hk, true_or, iff_true]
    exact ⟨q, rfl, hq, hi⟩
  · next hk => simp [hk]

/-- A grant to lease slot `l`, which did not hold the entry: from FREE, or SHARED from HELD_SHARED. -/
theorem State.Suits.granted (h : s.Suits i e)
    (ht : ∀ k, t.record k = if k = l then some q else s.record k) (hq : q.live = true)
    (hi : q.resource = i) (hl : l ∉ s.liveOn i) {mode : LeaseMode} (hm : q.mode = mode)
    (hst : e.state = .free ∨ (e.state = .heldShared ∧ mode = .shared))
    (hsp : ¬ (mode = .exclusive ∧ e.spent = true)) {rest : List LeaseSlot} (hn : rest.Nodup)
    (hrest : ∀ k, k ∈ rest ↔ k ≠ l ∧ k ∈ e.queue) :
    t.Suits i (({ e with queue := rest } : Entry).granted l mode) := by
  have hw : ∀ k, k ∈ rest ↔ t.waitsOn i k := fun k => by
    rw [hrest, State.waitsOn_of_live ht hq, h.waiting]
  have hlen : e.holders + 1 = (t.liveOn i).length := by
    rw [State.liveOn_length_succ hl (State.mem_liveOn_of_live ht hq hi), h.holders]
  -- a live record on the slot is the new one, or a SHARED one that was there
  have hlive : ∀ k x, t.record k = some x → x.resource = i → x.live = true →
      (k = l ∧ x = q) ∨ (x.mode = .shared ∧ e.state = .heldShared) := by
    intro k x hx hxi hxl
    rw [ht k] at hx
    split at hx
    · next hk => exact .inl ⟨hk, (Option.some.inj hx).symm⟩
    · cases hxm : x.mode with
      | shared => exact .inr ⟨rfl, h.shared k x hx hxi hxl hxm⟩
      | exclusive =>
        have := (h.exclusive k x hx hxi hxl hxm).1
        simp [this] at hst
  cases mode with
  | shared =>
    refine ⟨hn, hw, hlen, fun _ _ _ _ _ _ => rfl, fun k x hx hxi hxl hxm => ?_, h.generation,
      fun hs => by simp [Entry.granted] at hs⟩
    rcases hlive k x hx hxi hxl with ⟨-, rfl⟩ | ⟨hs, -⟩ <;> simp_all
  | exclusive =>
    have hfree : e.state = .free := by simpa using hst
    have hspent : e.generation ≠ 0xFFFFFFFE ∧ e.generation ≠ 0xFFFFFFFF := by
      simpa [Entry.spent] using hsp
    refine ⟨hn, hw, hlen, fun k x hx hxi hxl hxm => ?_, fun k x hx hxi hxl hxm => ⟨rfl, ?_⟩, ?_,
      fun _ => ?_⟩
    · rcases hlive k x hx hxi hxl with ⟨-, rfl⟩ | ⟨-, hs⟩ <;> simp_all
    · rcases hlive k x hx hxi hxl with ⟨rfl, -⟩ | ⟨hs, -⟩
      · rfl
      · simp [hs] at hxm
    · simp only [Entry.granted]
      bv_omega
    · simp only [Entry.granted]
      bv_omega

/-- A request joins the tail of the wait queue (R48). -/
theorem State.Suits.enqueued (h : s.Suits i e)
    (ht : ∀ k, t.record k = if k = l then some q else s.record k) (hq : q.state = .waiting)
    (hi : q.resource = i) (hl : s.record l = none) :
    t.Suits i { e with queue := e.queue ++ [l] } := by
  have hlq : l ∉ e.queue := fun hm => by
    obtain ⟨x, hx, -⟩ := (h.waiting l).1 hm
    simp [hl] at hx
  have hrec : ∀ k x, t.record k = some x → x.live = true → s.record k = some x := by
    intro k x hx hxl
    rw [ht k] at hx
    split at hx
    · cases hx
      exact absurd hq (LeaseRecord.not_waiting_of_live hxl)
    · exact hx
  refine ⟨List.nodup_append.2 ⟨h.nodup, List.nodup_singleton l, ?_⟩, fun k => ?_,
    h.holders.trans (State.liveOn_length_eq fun k => ?_).symm,
    fun k x hx hxi hxl => h.shared k x (hrec k x hx hxl) hxi hxl,
    fun k x hx hxi hxl => h.exclusive k x (hrec k x hx hxl) hxi hxl, h.generation, h.unspent⟩
  · rintro a ha b hb rfl
    exact hlq (List.mem_singleton.1 hb ▸ ha)
  · simp only [List.mem_append, List.mem_singleton, h.waiting, State.waitsOn, ht k]
    split
    · next hk =>
      simp only [hk, or_true, true_iff]
      exact ⟨q, rfl, hq, hi⟩
    · next hk => simp [hk]
  · simp only [State.mem_liveOn]
    refine exists_congr fun x => ⟨fun ⟨hx, hxl, hxi⟩ => ⟨hrec k x hx hxl, hxl, hxi⟩,
      fun ⟨hx, hxl, hxi⟩ => ⟨?_, hxl, hxi⟩⟩
    rw [ht k, if_neg ?_, hx]
    rintro rfl
    simp [hl] at hx

end Entering

/-! ### The grant check -/

theorem LeaseRecord.granted_shaped {r : LeaseRecord} (h : r.shaped) (hw : r.state = .waiting)
    (e : Entry) (count : Word) (p : Priority) :
    (r.granted e count (some { kind := .granted, priority := p })).shaped := by
  simp only [LeaseRecord.shaped, hw] at h
  simp [LeaseRecord.shaped, LeaseRecord.granted, h]

theorem mem_rest_of_nodup {α : Type} {l k : α} {rest : List α} (h : (l :: rest).Nodup) :
    k ∈ rest ↔ k ≠ l ∧ k ∈ l :: rest := by
  obtain ⟨hl, -⟩ := List.nodup_cons.1 h
  rw [List.mem_cons]
  constructor
  · intro hk
    exact ⟨fun hkl => hl (hkl ▸ hk), .inr hk⟩
  · rintro ⟨hkl, hk | hk⟩
    · exact absurd hk hkl
    · exact hk

/-- The head of the queue is granted (R54, R56). -/
theorem State.RecordLawsBut.grantHead {s : State} {i : DirSlot} (h : s.RecordLawsBut i) {e : Entry}
    (he : s.entry i = some e) {l : LeaseSlot} {rest : List LeaseSlot} (hq : e.queue = l :: rest)
    {r : LeaseRecord} (hr : s.record l = some r)
    (hst : e.state = .free ∨ (e.state = .heldShared ∧ r.mode = .shared))
    (hsp : ¬ (r.mode = .exclusive ∧ e.spent = true)) :
    (s.grantHead i { e with queue := rest } l r).RecordLawsBut i := by
  have hsuits := h.suits i e he
  have hnodup := hq ▸ hsuits.nodup
  obtain ⟨x, hx, hw, hi⟩ := (hsuits.waiting l).1 (by simp [hq])
  cases hr.symm.trans hx
  have hrec : ∀ k, (s.grantHead i { e with queue := rest } l r).record k =
      if k = l then some (r.granted (({ e with queue := rest } : Entry).granted l r.mode) s.clock.count
        (some { kind := .granted, priority := e.priority })) else s.record k := by
    intro k
    rw [State.grantHead, State.record_setRecord, State.record_setEntry]
  refine h.update (l := l) (fun j hj => ?_) (fun k hk => by rw [hrec, if_neg hk]) (fun y hy => ?_)
    (fun y hy => ?_) ?_ (f := ({ e with queue := rest } : Entry).granted l r.mode) ?_ ?_
  · rw [State.grantHead, State.entry_setRecord, State.entry_setEntry, if_neg hj]
  · cases hr.symm.trans hy
    exact hi
  · rw [hrec, if_pos rfl] at hy
    cases hy
    exact ⟨hi, LeaseRecord.granted_shaped (h.shapes l r hr).1 hw _ _ _⟩
  · refine h.once.of_claimsFrom fun k y hy hys => ?_
    rw [hrec] at hy
    split at hy
    · next hk =>
      cases hy
      exact ⟨r, hk ▸ hr, by simp [hw], rfl, rfl⟩
    · exact ⟨y, hy, hys, rfl, rfl⟩
  · rw [State.grantHead, State.entry_setRecord, State.entry_setEntry_self]
  · refine hsuits.granted hrec (by simp [LeaseRecord.live, LeaseRecord.granted]) hi ?_ rfl hst hsp
      (List.nodup_cons.1 hnodup).2 fun k => ?_
    · rw [State.mem_liveOn]
      rintro ⟨y, hy, hyl, -⟩
      cases hr.symm.trans hy
      exact LeaseRecord.not_waiting_of_live hyl hw
    · rw [hq]
      exact mem_rest_of_nodup hnodup

theorem State.advances_grantHead {s : State} {i : DirSlot} {e : Entry} (he : s.entry i = some e)
    (rest : List LeaseSlot) (l : LeaseSlot) {r : LeaseRecord} (hi : r.resource = i)
    (hsp : ¬ (r.mode = .exclusive ∧ e.spent = true)) :
    s.Advances (s.grantHead i { e with queue := rest } l r) :=
  State.advances_granted (f := { e with queue := rest }) (mode := r.mode) (q := r.granted
    (({ e with queue := rest } : Entry).granted l r.mode) s.clock.count
    (some { kind := .granted, priority := e.priority })) he ⟨rfl, rfl⟩
    (fun j => by rw [State.grantHead, State.entry_setRecord, State.entry_setEntry])
    (fun k => by rw [State.grantHead, State.record_setRecord, State.record_setEntry]) hi rfl rfl hsp

theorem State.advances_endSpentHead {s : State} {i : DirSlot} {e : Entry} (he : s.entry i = some e)
    (rest : List LeaseSlot) {l : LeaseSlot} {r : LeaseRecord} (hr : s.record l = some r) :
    s.Advances (s.endSpentHead i { e with queue := rest } l) := by
  unfold State.endSpentHead
  rw [State.endRecord_some _ (by rw [State.record_setEntry, hr])]
  exact ((State.advances_setEntry (f := { e with queue := rest }) he (le_refl _)).trans
    (State.advances_setRecord (by rw [State.record_setEntry, hr]) fun x hx =>
      (r.leaves_endedWith _ _ x hx).2.2)).trans (State.advances_reportSpent _ i)

/-- The head of the queue of a spent entry is ended (R55). -/
theorem State.RecordLawsBut.endSpentHead {s : State} {i : DirSlot} (h : s.RecordLawsBut i) {e : Entry}
    (he : s.entry i = some e) {l : LeaseSlot} {rest : List LeaseSlot} (hq : e.queue = l :: rest)
    {r : LeaseRecord} (hr : s.record l = some r) :
    (s.endSpentHead i { e with queue := rest } l).RecordLawsBut i := by
  have hsuits := h.suits i e he
  have hnodup := hq ▸ hsuits.nodup
  obtain ⟨x, hx, hw, hi⟩ := (hsuits.waiting l).1 (by simp [hq])
  cases hr.symm.trans hx
  subst hi
  refine State.RecordLawsBut.reportSpent ?_
  rw [State.endRecord_some _ (by rw [State.record_setEntry, hr])]
  have hleft := r.leaves_endedWith .spent
    ((s.setEntry r.resource (some { e with queue := rest })).priorityOf r.resource)
  have hu := Eq.refl (s.setRecord l (some (r.endedWith .spent
    ((s.setEntry r.resource (some { e with queue := rest })).priorityOf r.resource)))).tables
  refine (h.left hr hleft hu (hsuits.left_queue hr hw hleft hu (List.nodup_cons.1 hnodup).2
    fun k => ?_)).congr rfl
  rw [hq]
  exact mem_rest_of_nodup hnodup

/-- The grant check brings R50 to its entry. -/
theorem grantSteps_leadsTo {i : DirSlot} (q : List LeaseSlot) {s : State} (h : s.RecordLawsBut i)
    (hq : ∀ e, s.entry i = some e → e.queue = q) : s.LeadsTo (grantSteps i q s) := by
  have hstop : ∀ {s : State}, s.recordLaws → s.LeadsTo s := fun h => State.leadsTo_of_tables h rfl
  induction q generalizing s with
  | nil =>
    refine hstop ((State.recordLaws_iff s i).2 ⟨h, fun e he _ l r hl => ?_⟩)
    simp [hq e he] at hl
  | cons l rest ih =>
    rw [grantSteps]
    split
    · next hn => exact hstop ((State.recordLaws_iff s i).2 ⟨h, by simp [hn]⟩)
    · next e he =>
      have hqe := hq e he
      obtain ⟨r, hr, -, hi⟩ := ((h.suits i e he).waiting l).1 (by simp [hqe])
      simp only [hr]
      split
      · next hst =>
        split
        · next hm =>
          have hsp : ¬ (r.mode = .exclusive ∧ e.spent = true) := by simp [hm]
          exact (ih (h.grantHead he hqe hr (hst.imp_right fun hs => ⟨hs, hm⟩) hsp)
            (by simp [State.grantHead, hm, Entry.granted])).after
            (State.advances_grantHead he rest l hi hsp)
        · next hm =>
          split
          · exact (ih (h.endSpentHead he hqe hr) (State.queue_reportSpent (by simp))).after
              (State.advances_endSpentHead he rest hr)
          · next hsp =>
            have hsp : ¬ (r.mode = .exclusive ∧ e.spent = true) := by simpa [hm] using hsp
            split
            · next hfree =>
              exact ⟨(h.grantHead he hqe hr (.inl hfree) hsp).recordLaws
                (State.entry_setEntry_self _ _ _) (State.headFits_of_state (by simp [hm, Entry.granted])),
                State.advances_grantHead he rest l hi hsp⟩
            · refine hstop (h.recordLaws he fun _ k x hk hx => ?_)
              rw [hqe, List.head?_cons] at hk
              cases hk
              cases hr.symm.trans hx
              exact hm
      · next hst =>
        exact hstop (h.recordLaws he (State.headFits_of_state fun hs => hst (.inr hs)))

theorem State.RecordLawsBut.grantCheck {s : State} {i : DirSlot} (h : s.RecordLawsBut i) :
    s.LeadsTo (s.grantCheck i) := by
  unfold State.grantCheck
  split
  · next hn =>
    exact State.leadsTo_of_tables ((State.recordLaws_iff s i).2 ⟨h, by simp [hn]⟩) rfl
  · next e he => exact grantSteps_leadsTo _ h (by simp [he])

/-! ### Leaving an entry -/

section Leaving

variable {s u : State} {l : LeaseSlot} {r : LeaseRecord} {q : Option LeaseRecord}

/-- An EXCLUSIVE holder is the only live record of its entry. -/
theorem State.Suits.exclusive_alone {e : Entry} (h : s.Suits r.resource e) (hr : s.record l = some r)
    (hlive : r.live = true) (hm : r.mode = .exclusive) (k : LeaseSlot)
    (hk : k ∈ s.liveOn r.resource) : k = l := by
  obtain ⟨hst, hhold⟩ := h.exclusive l r hr rfl hlive hm
  obtain ⟨x, hx, hxl, hxi⟩ := State.mem_liveOn.1 hk
  cases hxm : x.mode with
  | shared => exact absurd (h.shared k x hx hxi hxl hxm) (by simp [hst])
  | exclusive =>
    have := (h.exclusive k x hx hxi hxl hxm).2
    rw [hhold] at this
    exact (Option.some.inj this).symm

theorem State.Suits.alone_of_holders {e : Entry} (h : s.Suits r.resource e) (hr : s.record l = some r)
    (hlive : r.live = true) (hh : e.holders ≤ 1) (k : LeaseSlot) (hk : k ∈ s.liveOn r.resource) :
    k = l := by
  have hl : l ∈ s.liveOn r.resource := State.mem_liveOn.2 ⟨r, hr, hlive, rfl⟩
  rw [h.holders] at hh
  obtain ⟨a, ha⟩ := List.length_eq_one_iff.1 (le_antisymm hh (List.length_pos_of_mem hl))
  rw [ha, List.mem_singleton] at hl hk
  rw [hl, hk]

/-- A live record dropped as a holder (R5). -/
theorem State.recordLaws.dropHolder (h : s.recordLaws) (hr : s.record l = some r)
    (hlive : r.live = true) (hq : r.leaves q) (hu : u.tables = (s.setRecord l q).tables) :
    s.LeadsTo (u.dropHolder r.resource l) := by
  obtain ⟨e, he⟩ := h.entry hr
  have hsuits := h.suits he
  have heu : u.entry r.resource = some e := by rw [State.entry_congr hu, State.entry_setRecord, he]
  refine State.LeadsTo.after ?_ (State.advances_left hr hq hu)
  unfold State.dropHolder
  simp only [heu]
  split
  · next hh =>
    exact ((h.but _).left hr hq hu (hsuits.left_alone hr hlive hq hu
      (hsuits.alone_of_holders hr hlive hh) (f := e.enterFree) rfl rfl hsuits.generation
      (by simp [Entry.enterFree]))).grantCheck.after
      (State.advances_setEntry (f := e.enterFree) heu (le_refl _))
  · next hh =>
    -- more than one holder: all are SHARED
    have hm : r.mode = .shared := by
      cases hm : r.mode with
      | shared => rfl
      | exclusive =>
        refine absurd ?_ hh
        rw [hsuits.holders]
        exact ((s.liveOn_nodup _).subperm (l₂ := [l]) fun k hk => by
          simp [hsuits.exclusive_alone hr hlive hm k hk]).length_le
    refine ⟨((h.but _).left hr hq hu (hsuits.left_shared hr hlive hm hq hu)).recordLaws
      (State.entry_setEntry_self _ _ _) fun hst k x hk hx => ?_,
      State.advances_setEntry heu (le_refl _)⟩
    rw [State.record_setEntry, State.record_of_left hu] at hx
    split at hx
    · next hkl =>
      subst hkl
      obtain ⟨y, hy, hyw, -⟩ := (hsuits.waiting k).1 (List.mem_of_mem_head? hk)
      cases hr.symm.trans hy
      exact absurd hyw (LeaseRecord.not_waiting_of_live hlive)
    · exact h.headFits he hst k x hk hx

/-- A WAITING record leaves its queue (R52, R57, R60). -/
theorem State.recordLaws.leaveQueue (h : s.recordLaws) (hr : s.record l = some r)
    (hw : r.state = .waiting) (hq : r.leaves q) (hu : u.tables = (s.setRecord l q).tables) :
    s.LeadsTo (u.leaveQueue r.resource l) := by
  obtain ⟨e, he⟩ := h.entry hr
  have hsuits := h.suits he
  have heu : u.entry r.resource = some e := by rw [State.entry_congr hu, State.entry_setRecord, he]
  refine State.LeadsTo.after ?_ (State.advances_left hr hq hu)
  unfold State.leaveQueue State.modifyEntry
  simp only [heu]
  refine ((h.but _).left hr hq hu (hsuits.left_queue hr hw hq hu (hsuits.nodup.filter _)
    fun k => ?_)).grantCheck.after (State.advances_setEntry heu (le_refl _))
  simp [and_comm]

/-- A live EXCLUSIVE record revoked at its resource (R104): its generation can still advance (R6). -/
theorem State.recordLaws.revokeExclusive (h : s.recordLaws) (hr : s.record l = some r)
    (hlive : r.live = true) (hm : r.mode = .exclusive) (hq : r.leaves q)
    (hu : u.tables = (s.setRecord l q).tables) (lines : BusLines) :
    s.LeadsTo (u.revokeExclusive r.resource lines) := by
  obtain ⟨e, he⟩ := h.entry hr
  have hsuits := h.suits he
  have heu : u.entry r.resource = some e := by rw [State.entry_congr hu, State.entry_setRecord, he]
  have hmax := hsuits.unspent (hsuits.exclusive l r hr rfl hlive hm).1
  have hgen : e.generation + 1 ≠ 0 := by bv_omega
  have hle : e.generation.toNat ≤ (e.generation + 1).toNat := by bv_omega
  -- the entry without its holder, in a state that no record has to hold
  have hbut : ∀ f : Entry, f.queue = e.queue → f.holders = 0 → f.generation = e.generation + 1 →
      f.state ≠ .heldExclusive → (u.setEntry r.resource (some f)).RecordLawsBut r.resource :=
    fun f hfq hfh hfg hfs => (h.but _).left hr hq hu (hsuits.left_alone hr hlive hq hu
      (hsuits.exclusive_alone hr hlive hm) hfq hfh (hfg ▸ hgen) hfs)
  refine State.LeadsTo.after ?_ (State.advances_left hr hq hu)
  unfold State.revokeExclusive
  simp only [heu]
  generalize hadv : ({ e with generation := e.generation + 1 } : Entry) = advanced
  have hqueue : advanced.queue = e.queue := hadv ▸ rfl
  have hnext : advanced.generation = e.generation + 1 := hadv ▸ rfl
  have hle : e.generation.toNat ≤ advanced.generation.toNat := hnext ▸ hle
  split
  · have hlead : u.LeadsTo (u.setEntry r.resource (some advanced.enterFencing)) :=
      ⟨(hbut advanced.enterFencing hqueue rfl hnext (by simp [Entry.enterFencing])).recordLaws
        (State.entry_setEntry_self _ _ _) (State.headFits_of_state (by simp [Entry.enterFencing])),
        State.advances_setEntry heu hle⟩
    exact hlead.fails (State.fails_appendJob _ _ _)
  · exact (hbut advanced.enterFree hqueue rfl hnext (by simp [Entry.enterFree])).grantCheck.after
      (State.advances_setEntry heu hle)

end Leaving

theorem State.recordLaws.freeRecord {s : State} (h : s.recordLaws) (l : LeaseSlot) :
    s.LeadsTo (s.freeRecord l) := by
  unfold State.freeRecord
  split
  · exact State.leadsTo_of_tables h rfl
  · next r hr =>
    have hu := s.tables_vacateRecord hr
    cases hs : r.state with
    | waiting => exact h.leaveQueue hr hs r.leaves_none hu
    | active => exact h.dropHolder hr (LeaseRecord.live_iff.2 (.inl hs)) r.leaves_none hu
    | warned => exact h.dropHolder hr (LeaseRecord.live_iff.2 (.inr hs)) r.leaves_none hu
    | ended => exact ⟨(h.ended_left hr hs).congr hu, State.advances_left hr r.leaves_none hu⟩

theorem State.recordLaws.revokeEnding {s : State} (h : s.recordLaws) {l : LeaseSlot} {r : LeaseRecord}
    (hr : s.record l = some r) (hlive : r.live = true) (c : EndCause) (lines : BusLines) :
    s.LeadsTo (s.revokeEnding l c lines) := by
  unfold State.revokeEnding State.revokeAt
  simp only [hr, s.endRecord_some hr]
  cases hm : r.mode with
  | shared => exact h.dropHolder hr hlive (r.leaves_endedWith c _) rfl
  | exclusive => exact h.revokeExclusive hr hlive hm (r.leaves_endedWith c _) rfl lines

theorem State.recordLaws.teardownRecord {s : State} (h : s.recordLaws) (l : LeaseSlot)
    (lines : BusLines) : s.LeadsTo (State.teardownRecord lines s l) := by
  unfold State.teardownRecord
  split
  · exact State.leadsTo_of_tables h rfl
  · next r hr =>
    split
    · next hx =>
      simp only [Bool.and_eq_true, decide_eq_true_eq] at hx
      exact h.revokeExclusive hr hx.1 hx.2 r.leaves_none (s.tables_vacateRecord hr) lines
    · exact h.freeRecord l

/-- A walk whose every step is lawful. -/
theorem State.recordLaws.walk {s : State} (h : s.recordLaws) {f : State → LeaseSlot → State}
    (hf : ∀ (t : State) l, t.recordLaws → t.LeadsTo (f t l)) (ls : List LeaseSlot) :
    s.LeadsTo (ls.foldl f s) :=
  foldl_preserves s.LeadsTo f (fun t l ht => (hf t l ht.laws).after ht.advances) ls
    (State.leadsTo_of_tables h rfl)

/-! ### The walk of FORCE REVOKE -/

/-- Every record that is live in `s` but that of slot `l` is kept as it is. -/
def State.keepsLive (s t : State) (l : LeaseSlot) : Prop :=
  ∀ k r, k ≠ l → s.record k = some r → r.live = true → t.record k = some r

theorem grantSteps_record {i : DirSlot} (q : List LeaseSlot) (s : State) {k : LeaseSlot}
    (hk : k ∉ q) : (grantSteps i q s).record k = s.record k := by
  induction q generalizing s with
  | nil => rfl
  | cons l rest ih =>
    obtain ⟨hkl, hkr⟩ := not_or.1 (mt List.mem_cons.2 hk)
    have hgrant : ∀ e r, (s.grantHead i e l r).record k = s.record k := by
      intro e r
      rw [State.grantHead, State.record_setRecord, if_neg hkl, State.record_setEntry]
    rw [grantSteps]
    split
    · rfl
    · split
      · split
        · rw [ih _ hkr, State.record_setEntry]
        · next r hr =>
          split
          · rw [ih _ hkr, hgrant]
          · split
            · rw [ih _ hkr]
              unfold State.endSpentHead
              rw [State.endRecord_some _ (by rw [State.record_setEntry, hr])]
              have hrep : ∀ u : State, (u.reportSpent i).record k = u.record k := by
                intro u
                unfold State.reportSpent
                split
                · rfl
                · split <;> rfl
              rw [hrep, State.record_setRecord, if_neg hkl, State.record_setEntry]
            · split
              · exact hgrant _ _
              · rfl
      · rfl

/-- The grant check changes records of the queue alone. -/
theorem State.record_grantCheck {s : State} {i : DirSlot} {k : LeaseSlot}
    (hk : ∀ e, s.entry i = some e → k ∉ e.queue) : (s.grantCheck i).record k = s.record k := by
  unfold State.grantCheck
  split
  · rfl
  · next e he => exact grantSteps_record _ _ (hk e he)

theorem State.Fails.record {s t : State} (h : s.Fails t) (k : LeaseSlot) : t.record k = s.record k := by
  cases h with
  | kept h => exact State.record_congr h k
  | failed i e he hs h => rw [State.record_congr h, State.record_setEntry]

theorem State.recordLaws.keepsLive_revokeEnding {s : State} (h : s.recordLaws) {l : LeaseSlot}
    {r : LeaseRecord} (hr : s.record l = some r) (c : EndCause) (lines : BusLines) :
    s.keepsLive (s.revokeEnding l c lines) l := by
  intro k x hkl hx hlive
  -- a live record stands in no wait queue
  have hqueue : ∀ i e, s.entry i = some e → k ∉ e.queue := by
    intro i e he hk
    obtain ⟨y, hy, hw, -⟩ := ((h.suits he).waiting k).1 hk
    cases hx.symm.trans hy
    exact LeaseRecord.not_waiting_of_live hlive hw
  have hcheck : ∀ (i : DirSlot) (e f : Entry), s.entry i = some e → f.queue = e.queue →
      (((s.endRecord l c).setEntry i (some f)).grantCheck i).record k = some x := by
    intro i e f he hf
    rw [State.record_grantCheck, State.record_setEntry, State.endRecord_some _ hr,
      State.record_setRecord, if_neg hkl, hx]
    intro g hg
    rw [State.entry_setEntry_self] at hg
    cases hg
    rw [hf]
    exact hqueue i e he
  have hended : (s.endRecord l c).record k = some x := by
    rw [State.endRecord_some _ hr, State.record_setRecord, if_neg hkl, hx]
  unfold State.revokeEnding State.revokeAt
  simp only [hr]
  split
  · unfold State.dropHolder
    split
    · exact hended
    · next e he =>
      rw [State.entry_endRecord] at he
      split
      · exact hcheck _ e _ he rfl
      · exact hended
  · unfold State.revokeExclusive
    split
    · exact hended
    · next e he =>
      rw [State.entry_endRecord] at he
      dsimp only
      split
      · rw [(State.fails_appendJob _ _ _).record]
        exact hended
      · exact hcheck _ e _ he rfl

/-- The records of the walk stay live until their own turn (R105). -/
theorem State.recordLaws.revokeEach {s : State} (h : s.recordLaws) (lines : BusLines) (c : EndCause)
    (ls : List LeaseSlot) (hn : ls.Nodup)
    (hl : ∀ l, l ∈ ls → ∃ r, s.record l = some r ∧ r.live = true) :
    s.LeadsTo (ls.foldl (fun t l => t.revokeEnding l c lines) s) := by
  induction ls generalizing s with
  | nil => exact State.leadsTo_of_tables h rfl
  | cons l ls ih =>
    obtain ⟨r, hr, hlive⟩ := hl l List.mem_cons_self
    obtain ⟨hln, hn⟩ := List.nodup_cons.1 hn
    have hfirst := h.revokeEnding hr hlive c lines
    refine (ih hfirst.laws hn fun k hk => ?_).after hfirst.advances
    obtain ⟨x, hx, hxl⟩ := hl k (List.mem_cons_of_mem l hk)
    exact ⟨x, h.keepsLive_revokeEnding hr c lines k x (fun hkl => hln (hkl ▸ hk)) hx hxl, hxl⟩

theorem State.liveRecordsOf_eq (s : State) (i : DirSlot) : s.liveRecordsOf i = s.liveOn i := by
  unfold State.liveRecordsOf State.liveOn
  congr 1
  funext l
  cases s.record l <;> rfl

theorem State.recordLaws.forced {s : State} (h : s.recordLaws) (i : DirSlot) (lines : BusLines) :
    s.LeadsTo ((s.liveRecordsOf i).foldl (fun t l => t.revokeEnding l .forced lines) s) := by
  rw [State.liveRecordsOf_eq]
  refine h.revokeEach lines .forced _ (s.liveOn_nodup i) fun l hl => ?_
  obtain ⟨r, hr, hlive, -⟩ := State.mem_liveOn.1 hl
  exact ⟨r, hr, hlive⟩

/-! ### Records rewritten in place -/

/-- A record rewritten with nothing changed of which the entries speak. -/
theorem State.recordLaws.setRecord {s : State} (h : s.recordLaws) {l : LeaseSlot} {r q : LeaseRecord}
    (hr : s.record l = some r) (hw : q.state = .waiting ↔ r.state = .waiting) (hl : q.live = r.live)
    (hm : q.mode = r.mode) (hs : q.session = r.session) (hi : q.resource = r.resource)
    (ht : q.token = r.token) (hq : q.shaped) : s.LeadsTo (s.setRecord l (some q)) := by
  obtain ⟨e, he⟩ := h.entry hr
  have hsuits := h.suits he
  -- every record of the new table has the standing of the one in its slot before
  have hback : ∀ k y, (s.setRecord l (some q)).record k = some y → ∃ x, s.record k = some x ∧
      (y.state = .waiting ↔ x.state = .waiting) ∧ y.live = x.live ∧ y.mode = x.mode ∧
      y.session = x.session ∧ y.resource = x.resource := by
    intro k y hy
    rw [State.record_setRecord] at hy
    split at hy
    · next hk =>
      cases hy
      exact ⟨r, hk ▸ hr, hw, hl, hm, hs, hi⟩
    · exact ⟨y, hy, .rfl, rfl, rfl, rfl, rfl⟩
  have hforth : ∀ k x, s.record k = some x → ∃ y, (s.setRecord l (some q)).record k = some y ∧
      (y.state = .waiting ↔ x.state = .waiting) ∧ y.live = x.live ∧ y.resource = x.resource := by
    intro k x hx
    rw [State.record_setRecord]
    split
    · next hk =>
      subst hk
      cases hr.symm.trans hx
      exact ⟨q, rfl, hw, hl, hi⟩
    · exact ⟨x, hx, .rfl, rfl, rfl⟩
  have hended : ∀ x : LeaseRecord, x.state ≠ .ended ↔ x.state = .waiting ∨ x.live = true := by
    intro x
    rw [LeaseRecord.live_iff]
    cases x.state <;> simp
  refine ⟨?_, State.advances_setRecord hr fun x hx => by cases hx; exact ⟨hi, hm, ht⟩⟩
  refine State.RecordLawsBut.recordLaws (i := r.resource) (e := e) ((h.but _).update (l := l)
    (fun _ _ => rfl) (fun k hk => ?_) (fun x hx => ?_) (fun x hx => ?_)
    ((h.but 0).once.of_claimsFrom fun k y hy hys => ?_) he ⟨hsuits.nodup, fun k => ?_,
      hsuits.holders.trans (State.liveOn_length_eq fun k => ?_).symm, fun k y hy hyi hyl hym => ?_,
      fun k y hy hyi hyl hym => ?_, hsuits.generation, hsuits.unspent⟩) he
    fun hst k y hk hy => ?_
  · rw [State.record_setRecord, if_neg hk]
  · cases hr.symm.trans hx
    rfl
  · rw [State.record_setRecord_self] at hx
    cases hx
    exact ⟨hi, hq⟩
  · obtain ⟨x, hx, hxw, hxl, -, hxs, hxi⟩ := hback k y hy
    rw [hended, hxw, hxl, ← hended] at hys
    exact ⟨x, hx, hys, hxs.symm, hxi.symm⟩
  · rw [hsuits.waiting]
    constructor
    · rintro ⟨x, hx, hxw, hxi⟩
      obtain ⟨y, hy, hyw, -, hyi⟩ := hforth k x hx
      exact ⟨y, hy, hyw.2 hxw, hyi.trans hxi⟩
    · rintro ⟨y, hy, hyw, hyi⟩
      obtain ⟨x, hx, hxw, -, -, -, hxi⟩ := hback k y hy
      exact ⟨x, hx, hxw.1 hyw, hxi.symm.trans hyi⟩
  · simp only [State.mem_liveOn]
    constructor
    · rintro ⟨y, hy, hyl, hyi⟩
      obtain ⟨x, hx, -, hxl, -, -, hxi⟩ := hback k y hy
      exact ⟨x, hx, hxl ▸ hyl, hxi.symm.trans hyi⟩
    · rintro ⟨x, hx, hxl, hxi⟩
      obtain ⟨y, hy, -, hyl, hyi⟩ := hforth k x hx
      exact ⟨y, hy, hyl.trans hxl, hyi.trans hxi⟩
  · obtain ⟨x, hx, -, hxl, hxm, -, hxi⟩ := hback k y hy
    exact hsuits.shared k x hx (hxi.symm.trans hyi) (hxl ▸ hyl) (hxm ▸ hym)
  · obtain ⟨x, hx, -, hxl, hxm, -, hxi⟩ := hback k y hy
    exact hsuits.exclusive k x hx (hxi.symm.trans hyi) (hxl ▸ hyl) (hxm ▸ hym)
  · obtain ⟨x, hx, -, -, hxm, -⟩ := hback k y hy
    rw [hxm]
    exact h.headFits he hst k x hk hx

theorem LeaseRecord.live_active {r : LeaseRecord} (h : r.state = .active) : r.live = true :=
  LeaseRecord.live_iff.2 (.inl h)

theorem LeaseRecord.renewed_shaped {r : LeaseRecord} (h : r.shaped)
    (hs : r.state = .active ∨ r.state = .warned) (p : Policy) (count : Word) :
    (r.renewed p count).shaped := by
  unfold LeaseRecord.shaped at h
  rcases hs with hs | hs <;> simp only [hs] at h
  · obtain ⟨ht, -, hw, hc, hn⟩ := h
    refine ⟨ht, by simp [LeaseRecord.renewed], hw, hc, fun n hn' => hn n ?_⟩
    exact (Option.filter_eq_some_iff.1 hn').1
  · obtain ⟨ht, -, -, hw, hc, hn⟩ := h
    refine ⟨ht, by simp [LeaseRecord.renewed], hw, hc, fun n hn' => ?_⟩
    obtain ⟨hn', hk⟩ := Option.filter_eq_some_iff.1 hn'
    simp [hn n hn'] at hk

theorem State.recordLaws.renewed {s : State} (h : s.recordLaws) {l : LeaseSlot} {r : LeaseRecord}
    (hr : s.record l = some r) (hs : r.state = .active ∨ r.state = .warned) (p : Policy)
    (count : Word) : s.LeadsTo (s.setRecord l (some (r.renewed p count))) :=
  h.setRecord hr (by rcases hs with hs | hs <;> simp [LeaseRecord.renewed, hs])
    (by rw [LeaseRecord.live_iff.2 hs]; simp [LeaseRecord.live, LeaseRecord.renewed]) rfl rfl rfl rfl
    (LeaseRecord.renewed_shaped (h.shaped hr) hs p count)

theorem State.recordLaws.warned {s : State} (h : s.recordLaws) {l : LeaseSlot} {r : LeaseRecord}
    (hr : s.record l = some r) (hs : r.state = .active) (p : Priority) :
    s.LeadsTo (s.setRecord l (some (r.warnedWith p))) := by
  have hshape := h.shaped hr
  simp only [LeaseRecord.shaped, hs] at hshape
  obtain ⟨ht, hx, hw, hc, -⟩ := hshape
  exact h.setRecord hr (by simp [LeaseRecord.warnedWith, hs])
    (by rw [LeaseRecord.live_active hs]; simp [LeaseRecord.live, LeaseRecord.warnedWith]) rfl rfl rfl rfl
    (by simp [LeaseRecord.shaped, LeaseRecord.warnedWith, ht, hx, hw, hc])

theorem State.recordLaws.retireRecord {s : State} (h : s.recordLaws) (l : LeaseSlot) :
    s.LeadsTo (s.retireRecord l) := by
  unfold State.retireRecord
  split
  · exact State.leadsTo_of_tables h rfl
  · next r hr =>
    split
    · exact State.leadsTo_of_tables h rfl
    · exact h.freeRecord l
    · next k hk hkind =>
      refine h.setRecord hr .rfl rfl rfl rfl rfl rfl ?_
      have hshape := h.shaped hr
      unfold LeaseRecord.shaped at hshape ⊢
      cases hs : r.state with
      | waiting =>
        simp only [hs] at hshape ⊢
        obtain ⟨ht, hx, hw, -, hrest⟩ := hshape
        exact ⟨ht, hx, hw, trivial, hrest⟩
      | active =>
        simp only [hs] at hshape ⊢
        obtain ⟨ht, hx, hw, hc, -⟩ := hshape
        exact ⟨ht, hx, hw, hc, by simp⟩
      | warned =>
        simp only [hs] at hshape ⊢
        obtain ⟨ht, hx, hn, hw, hc, -⟩ := hshape
        exact ⟨ht, hx, hn, hw, hc, by simp⟩
      | ended =>
        simp only [hs] at hshape
        obtain ⟨-, -, -, -, n, hn, hnk⟩ := hshape
        simp [hn, hnk] at hkind
        exact absurd hkind.symm hk

/-! ### A request taken into the lease table -/

theorem State.record_allocate (s : State) (l : LeaseSlot) (r : LeaseRecord) (k : LeaseSlot) :
    (s.allocate l r).record k = if k = l then some r else s.record k := by
  rw [State.record_congr (s.tables_allocate l r), State.record, State.lease_setLease]
  split <;> rfl

theorem State.entry_allocate (s : State) (l : LeaseSlot) (r : LeaseRecord) (i : DirSlot) :
    (s.allocate l r).entry i = s.entry i := State.entry_congr (s.tables_allocate l r) i

/-- A record taken into the table without a token. -/
theorem State.advances_allocate {s : State} (l : LeaseSlot) {q : LeaseRecord} (hq : q.token = none) :
    s.Advances (s.allocate l q) := by
  refine ⟨fun i e he => ⟨e, by rw [State.entry_allocate, he], le_refl _⟩, fun k r g hr hm hg => .inl ?_⟩
  rw [State.record_allocate] at hr
  split at hr
  · cases hr
    simp [hq] at hg
  · exact ⟨r, hr, rfl, hm, hg⟩

/-- Without a claim of the session on the slot, a new record of the two is its first claim (R42). -/
theorem State.claimsOnce_allocate {s t : State} {i : SessSlot} {x : Session} {d : DirSlot}
    {l : LeaseSlot} {q : LeaseRecord} (h : s.claimsOnce) (how : s.ownershipLaws)
    (hx : s.session i = some x) (hc : s.hasClaim x d = false) (hqs : q.session = i)
    (hqd : q.resource = d) (ht : ∀ k, t.record k = if k = l then some q else s.record k) :
    t.claimsOnce := by
  -- no record of the session claims the slot
  have hnone : ∀ k r, s.record k = some r → r.state ≠ .ended → r.session = i → r.resource ≠ d := by
    intro k r hr hrs hri hrd
    obtain ⟨y, hy, -, hk⟩ := how.1 k r hr
    rw [hri, hx] at hy
    cases hy
    have := List.any_eq_false.1 hc k hk
    simp [hr, hrd, hrs] at this
  intro a b r r' hr hr' hrs hrs' hsess hres
  rw [ht] at hr hr'
  split at hr
  · next ha =>
    cases hr
    split at hr'
    · next hb => rw [ha, hb]
    · exact absurd (hres.symm.trans hqd) (hnone b r' hr' hrs' (hsess.symm.trans hqs))
  · split at hr'
    · cases hr'
      exact absurd (hres.trans hqd) (hnone a r hr hrs (hsess.trans hqs))
    · exact h a b r r' hr hr' hrs hrs' hsess hres

section Requests

variable {s : State} {i : SessSlot} {x : Session} {d : DirSlot} {e : Entry} {mode : LeaseMode}
  {l : LeaseSlot}

/-- A record put into a VACANT lease slot, with its entry rewritten. -/
theorem State.recordLaws.allocate (h : s.recordLaws) (how : s.ownershipLaws)
    (hx : s.session i = some x) (hc : s.hasClaim x d = false) (hl : s.record l = none)
    {q : LeaseRecord} (hqs : q.session = i) (hqd : q.resource = d) (hq : q.shaped) {f : Entry}
    (hf : ∀ t : State, (∀ k, t.record k = if k = l then some q else s.record k) → t.Suits d f) :
    ((s.setEntry d (some f)).allocate l q).RecordLawsBut d := by
  have hrec : ∀ k, ((s.setEntry d (some f)).allocate l q).record k =
      if k = l then some q else s.record k := by
    intro k
    rw [State.record_allocate, State.record_setEntry]
  refine (h.but d).update (l := l) (fun j hj => ?_) (fun k hk => by rw [hrec, if_neg hk])
    (fun r hr => by simp [hl] at hr) (fun r hr => ?_)
    (State.claimsOnce_allocate (h.but d).once how hx hc hqs hqd hrec) ?_ (hf _ hrec)
  · rw [State.entry_allocate, State.entry_setEntry, if_neg hj]
  · rw [hrec, if_pos rfl] at hr
    cases hr
    exact ⟨hqd, hq⟩
  · rw [State.entry_allocate, State.entry_setEntry_self]

theorem State.recordLaws.grantedAtOnce (h : s.recordLaws) (how : s.ownershipLaws)
    (hx : s.session i = some x) (he : s.entry d = some e) (hc : s.hasClaim x d = false)
    (hs : ¬ (mode = .exclusive ∧ e.spent = true)) (hl : s.record l = none)
    (hg : e.grantable mode = true) : s.LeadsTo (s.grantAtOnce i d e mode l).state := by
  obtain ⟨hq, hst⟩ := Entry.grantable_iff.1 hg
  have hqueue : ({ e with queue := [] } : Entry) = e := by rw [← hq]
  unfold State.grantAtOnce
  dsimp only
  refine ⟨?_, State.advances_granted (f := e) (mode := mode)
    (q := (newRecord i d mode).granted (e.granted l mode) s.clock.count none) he ⟨rfl, rfl⟩
    (fun j => by rw [State.entry_allocate, State.entry_setEntry])
    (fun k => by rw [State.record_allocate, State.record_setEntry]) rfl rfl rfl hs⟩
  refine State.RecordLawsBut.recordLaws (e := e.granted l mode)
    (h.allocate how hx hc hl rfl rfl ?_ fun t ht => ?_) ?_ fun _ k r hk => ?_
  · simp [LeaseRecord.shaped, LeaseRecord.granted, newRecord]
  · have hsuits := (h.suits he).granted (rest := []) ht (by simp [LeaseRecord.live, LeaseRecord.granted])
      rfl ?_ rfl hst hs List.nodup_nil (by simp [hq])
    · rwa [hqueue] at hsuits
    · simp [State.mem_liveOn, hl]
  · rw [State.entry_allocate, State.entry_setEntry_self]
  · have : (e.granted l mode).queue = [] := by cases mode <;> exact hq
    simp [this] at hk

theorem State.recordLaws.enqueued (h : s.recordLaws) (how : s.ownershipLaws)
    (hx : s.session i = some x) (he : s.entry d = some e) (hc : s.hasClaim x d = false)
    (hl : s.record l = none) (hg : e.grantable mode = false) (limit : Half) :
    s.LeadsTo (s.enqueue i d e mode limit l).state := by
  unfold State.enqueue
  dsimp only
  refine ⟨?_, (State.advances_setEntry (f := { e with queue := e.queue ++ [l] }) he (le_refl _)).trans
    (State.advances_allocate l rfl)⟩
  refine State.RecordLawsBut.recordLaws (e := { e with queue := e.queue ++ [l] })
    (h.allocate how hx hc hl rfl rfl ?_ fun t ht => (h.suits he).enqueued ht rfl rfl hl) ?_
    fun hst k r hk hr => ?_
  · simp [LeaseRecord.shaped, newRecord]
  · rw [State.entry_allocate, State.entry_setEntry_self]
  · rw [State.record_allocate, State.record_setEntry] at hr
    cases hq : e.queue with
    | nil =>
      -- the request is the head: it was not grantable at once
      rw [hq] at hk
      cases hk
      rw [if_pos rfl] at hr
      cases hr
      show mode = .exclusive
      cases hm : mode with
      | exclusive => rfl
      | shared =>
        rw [Entry.grantable_iff.2 ⟨hq, .inr ⟨hst, hm⟩⟩] at hg
        cases hg
    | cons a rest =>
      rw [hq] at hk
      cases hk
      split at hr
      · next hal =>
        obtain ⟨y, hy, -⟩ := ((h.suits he).waiting k).1 (by simp [hq])
        rw [hal, hl] at hy
        cases hy
      · exact h.headFits he hst k r (by simp [hq]) hr

end Requests

/-! ### The directory and the bus -/

/-- An entry that no record holds goes FREE and runs the grant check (R110, R116). -/
theorem State.recordLaws.enterFree {s : State} (h : s.recordLaws) {i : DirSlot} {e : Entry}
    (he : s.entry i = some e) (hs : e.state ≠ .heldShared) (hx : e.state ≠ .heldExclusive) :
    s.LeadsTo ((s.setEntry i (some e.enterFree)).grantCheck i) :=
  ((h.but i).setEntry (f := e.enterFree) ((h.suits he).emptied hs hx rfl rfl rfl
    (by simp [Entry.enterFree]))).grantCheck.after
    (State.advances_setEntry (f := e.enterFree) he (le_refl _))

theorem State.recordLaws.settleHead {s : State} (h : s.recordLaws) : s.LeadsTo s.settleHead := by
  unfold State.settleHead
  split
  · exact State.leadsTo_of_tables h rfl
  · next j rest _ =>
    have h' : s.LeadsTo { s with fenceQueue := rest } := State.leadsTo_of_tables h rfl
    dsimp only
    split
    · exact h'
    · next e he =>
      split
      · next hs => exact (h'.laws.enterFree he (by simp [hs]) (by simp [hs])).after h'.advances
      · exact h'

theorem State.recordLaws.retried {s : State} (h : s.recordLaws) {i : DirSlot} {e : Entry}
    (he : s.entry i = some e) (hs : e.state = .fenceFailed) :
    s.LeadsTo (s.setEntry i (some e.enterFencing)) :=
  ⟨h.setEntry ((h.suits he).emptied (by simp [hs]) (by simp [hs]) rfl rfl rfl
    (by simp [Entry.enterFencing])) (State.headFits_of_state (by simp [Entry.enterFencing])),
    State.advances_setEntry (f := e.enterFencing) he (le_refl _)⟩

theorem State.recordLaws.amended {s : State} (h : s.recordLaws) {i : DirSlot} {e : Entry}
    (he : s.entry i = some e) (a : AmendArgs) : s.LeadsTo (s.setEntry i (some (e.amended a))) := by
  have hkeep : (e.amended a).state = e.state ∧ (e.amended a).queue = e.queue ∧
      (e.amended a).holders = e.holders ∧ (e.amended a).exclusiveHolder = e.exclusiveHolder ∧
      (e.amended a).generation = e.generation := by
    unfold Entry.amended
    dsimp only
    split_ifs <;> exact ⟨rfl, rfl, rfl, rfl, rfl⟩
  obtain ⟨hs, hq, hh, hx, hg⟩ := hkeep
  refine ⟨h.setEntry ((h.suits he).of_standing hs hq hh hx hg) fun hst l r hl hr => ?_,
    State.advances_setEntry he (by rw [hg])⟩
  rw [hs] at hst
  rw [hq] at hl
  exact h.headFits he hst l r hl hr

/-- A VACANT slot is named by no record. -/
theorem State.recordLaws.not_named {s : State} (h : s.recordLaws) {i : DirSlot}
    (hi : s.entry i = none) {l : LeaseSlot} {r : LeaseRecord} (hr : s.record l = some r) :
    r.resource ≠ i := by
  rintro rfl
  obtain ⟨e, he⟩ := h.entry hr
  simp [hi] at he

theorem State.recordLaws.defined {s : State} (h : s.recordLaws) {i : DirSlot}
    (hi : s.entry i = none) (a : DefineArgs) : s.LeadsTo (s.setEntry i (some (newEntry a))) := by
  refine ⟨h.setEntry (State.suits_of_no_live List.nodup_nil (fun l => ?_) ?_ rfl (by simp [newEntry])
    (by simp [newEntry])) (State.headFits_of_state (by simp [newEntry])), fun j e hj => ⟨e, ?_, le_refl _⟩,
    fun k r g hr hm hg => .inl ⟨r, hr, rfl, hm, hg⟩⟩
  · simp only [newEntry, List.not_mem_nil, false_iff]
    rintro ⟨r, hr, -, hri⟩
    exact h.not_named hi hr hri
  · refine List.eq_nil_iff_forall_not_mem.2 fun l hl => ?_
    obtain ⟨r, hr, -, hri⟩ := State.mem_liveOn.1 hl
    exact h.not_named hi hr hri
  · rw [State.entry_setEntry, if_neg ?_, hj]
    rintro rfl
    simp [hi] at hj

theorem State.namedByRecord_iff {s : State} {i : DirSlot} :
    s.namedByRecord i = true ↔ ∃ l r, s.record l = some r ∧ r.resource = i := by
  unfold State.namedByRecord
  simp only [List.any_eq_true, Option.any_eq_true, decide_eq_true_eq]
  constructor
  · rintro ⟨c, hc, r, hr, hi⟩
    obtain ⟨k, hk, rfl⟩ := List.getElem_of_mem hc
    refine ⟨⟨k, by simpa using hk⟩, r, ?_, hi⟩
    rw [← hr]
    simp [State.record, State.lease, Vector.get]
  · rintro ⟨l, r, hr, hi⟩
    exact ⟨s.lease l, by simp [State.lease, Vector.get], r, hr, hi⟩

theorem State.recordLaws.deleted {s : State} (h : s.recordLaws) {i : DirSlot}
    (hn : s.namedByRecord i = false) : (s.setEntry i none).recordLaws := by
  have hnot : ∀ l r, s.record l = some r → r.resource ≠ i := by
    intro l r hr hi
    rw [State.namedByRecord_iff.2 ⟨l, r, hr, hi⟩] at hn
    cases hn
  have hold : ∀ j f, (s.setEntry i none).entry j = some f → s.entry j = some f := by
    intro j f hf
    rw [State.entry_setEntry] at hf
    split at hf
    · cases hf
    · exact hf
  refine (State.recordLaws_iff _ i).2 ⟨⟨fun l r hr => ?_, fun j f hf => ?_, fun j f _ hf => ?_,
    (h.but i).once⟩, by simp⟩
  · obtain ⟨e, he⟩ := h.entry hr
    exact ⟨h.shaped hr, e, by rw [State.entry_setEntry, if_neg (hnot l r hr), he]⟩
  · exact (h.suits (hold j f hf)).setEntry _ _
  · exact h.headFits (hold j f hf)

/-! ### Resets -/

theorem State.record_warmReset (s : State) (l : LeaseSlot) : s.warmReset.record l = none := by
  simp only [State.record, State.lease, State.warmReset, Vector.get_eq_getElem, Vector.getElem_map]

theorem State.record_coldReset (s : State) (low adr : Bool) (l : LeaseSlot) :
    (s.coldReset low adr).record l = none := by
  simp [State.record, State.lease, State.coldReset, State.reset, Vector.get]

/-- Without a record the laws ask for entries with no holder and no queue. -/
theorem State.recordLaws_of_no_record {s : State} (h : ∀ l, s.record l = none)
    (he : ∀ i e, s.entry i = some e → e.queue = [] ∧ e.holders = 0 ∧ e.generation ≠ 0 ∧
      e.state ≠ .heldExclusive) : s.recordLaws := by
  have hlive : ∀ i, s.liveOn i = [] := fun i => by
    refine List.eq_nil_iff_forall_not_mem.2 fun l hl => ?_
    obtain ⟨r, hr, -⟩ := State.mem_liveOn.1 hl
    simp [h] at hr
  refine (State.recordLaws_iff s 0).2 ⟨⟨fun l r hr => by simp [h] at hr, fun i e hi => ?_,
    fun i e _ _ _ l r _ hr => by simp [h] at hr, fun l k r q hr => by simp [h] at hr⟩,
    fun e _ _ l r _ hr => by simp [h] at hr⟩
  obtain ⟨hq, hh, hg, hx⟩ := he i e hi
  exact State.suits_of_no_live (by simp [hq]) (fun l => by simp [hq, State.waitsOn, h]) (hlive i) hh hg hx

theorem State.generation_settled (s : State) (e : Entry) : (s.settled e).generation =
    if e.generation = 0xFFFFFFFF then e.generation else e.generation + 1 := by
  unfold State.settled
  dsimp only
  split <;> rfl

theorem State.recordLaws.warmReset {s : State} (h : s.recordLaws) : s.LeadsTo s.warmReset := by
  refine ⟨?_, fun i e he => ⟨s.settled e, by rw [State.entry_warmReset, he, Option.map_some], ?_⟩,
    fun l r g hr => by simp [State.record_warmReset] at hr⟩
  swap
  · rw [State.generation_settled]
    split
    · exact le_refl _
    · bv_omega
  refine State.recordLaws_of_no_record s.record_warmReset fun i f hf => ?_
  rw [State.entry_warmReset, Option.map_eq_some_iff] at hf
  obtain ⟨e, he, rfl⟩ := hf
  refine ⟨?_, ?_, ?_, ?_⟩
  · unfold State.settled
    dsimp only
    split <;> rfl
  · unfold State.settled
    dsimp only
    split <;> rfl
  · have := (h.suits he).generation
    rw [State.generation_settled]
    split
    · exact this
    · bv_omega
  · unfold State.settled
    dsimp only
    split <;> simp [Entry.enterFencing, Entry.enterFree]

theorem State.recordLaws.profileSet {s : State} (h : s.recordLaws) (n : ProfileNo)
    (p : Option Profile) : ({ s with profiles := put s.profiles n p } : State).recordLaws :=
  (State.recordLaws_iff _ 0).2 ⟨⟨(h.but 0).shapes, fun j _ hf =>
    (h.suits hf).of_sameOn (State.sameOn_of_record (fun _ => rfl) j), (h.but 0).heads, (h.but 0).once⟩,
    fun _ hf => h.headFits hf⟩

/-! ### Every step -/

/-- A change but DELETE RESOURCE and the cold reset, which leave slots VACANT, leads to lawful records. -/
theorem State.Change.leadsTo {s t : State} (hc : s.Change t) (h : s.recordLaws) (how : s.ownershipLaws) :
    s.LeadsTo t ∨ (∃ i, s.namedByRecord i = false ∧ t = s.setEntry i none) ∨
      ∃ low adr, t = s.coldReset low adr := by
  cases hc with
  | nothing => exact .inl (State.leadsTo_of_tables h rfl)
  | spentRefusal d => exact .inl ⟨h.reportSpent d, s.advances_reportSpent d⟩
  | grantedAtOnce i x d e mode l hx he hc hs hl hg => exact .inl (h.grantedAtOnce how hx he hc hs hl hg)
  | enqueued i x d e mode limit l hx he hc hs hl hg => exact .inl (h.enqueued how hx he hc hl hg limit)
  | freed l => exact .inl (h.freeRecord l)
  | freedAll records => exact .inl (h.walk (fun _ l hs => hs.freeRecord l) records)
  | lapsed i x cause lines =>
    have hmarks : s.LeadsTo (s.dropSessionMarks i) :=
      State.leadsTo_of_tables h (s.tables_modifySession i _)
    exact .inl (((hmarks.laws.walk (fun _ l hs => hs.teardownRecord l lines) x.records).after
      hmarks.advances).congr rfl)
  | renewed l r p hr hs => exact .inl (h.renewed hr hs p _)
  | retired l => exact .inl (h.retireRecord l)
  | warned l r p hr hs => exact .inl (h.warned hr hs p)
  | revoked l r cause lines hr hl => exact .inl (h.revokeEnding hr hl cause lines)
  | forced i lines => exact .inl (h.forced i lines)
  | waitEnded l r hr hs =>
    rw [State.endRecord_some _ hr]
    exact .inl (h.leaveQueue hr hs (r.leaves_endedWith _ _) rfl)
  | defined i a hi hk ht hp hf hl => exact .inl (h.defined hi a)
  | amended i e a he ht hp hl => exact .inl (h.amended he a)
  | deleted i e he hs hn => exact .inr (.inl ⟨i, hn, rfl⟩)
  | accepted i e he hs => exact .inl (h.enterFree he (by simp [hs]) (by simp [hs]))
  | retried i e t he hs ht => exact .inl ((h.retried he hs).fails ht)
  | profileSet n p hp => exact .inl ⟨h.profileSet n p, State.advances_of_same (fun _ => rfl) fun _ => rfl⟩
  | busFailed u t hu ht =>
    exact .inl (State.LeadsTo.fails (State.LeadsTo.fails (State.leadsTo_of_tables h rfl) hu) ht)
  | busSettled u t hu ht =>
    have hbus := State.leadsTo_of_tables h hu
    exact .inl ((hbus.laws.settleHead.after hbus.advances).fails ht)
  | warmReset t ht => exact .inl (h.warmReset.fails ht)
  | coldReset low adr => exact .inr (.inr ⟨low, adr, rfl⟩)

theorem State.Change.recordLaws {s t : State} (hc : s.Change t) (h : s.recordLaws)
    (how : s.ownershipLaws) : t.recordLaws := by
  rcases hc.leadsTo h how with ht | ⟨i, hn, rfl⟩ | ⟨low, adr, rfl⟩
  · exact ht.laws
  · exact h.deleted hn
  · exact State.recordLaws_of_no_record (s.record_coldReset low adr) fun i e he => by
      simp [State.entry_coldReset] at he

/-! ### Holders and waiters (R2, R49) -/

/-- The session of a lease slot's record; any for a VACANT slot. -/
def State.claimant (s : State) (l : LeaseSlot) : SessSlot :=
  ((s.record l).map LeaseRecord.session).getD 0

/-- The claims on a slot are of sixteen sessions at most, and each has one. -/
theorem State.recordLaws.claims_le {s : State} (h : s.recordLaws) {i : DirSlot} {e : Entry}
    (he : s.entry i = some e) : e.holders + e.queue.length ≤ 16 := by
  have hsuits := h.suits he
  -- each of them holds a record that is not ENDED and names the slot
  have hclaim : ∀ l ∈ s.liveOn i ++ e.queue, ∃ r, s.record l = some r ∧ r.state ≠ .ended ∧
      r.resource = i := by
    intro l hl
    rcases List.mem_append.1 hl with hl | hl
    · obtain ⟨r, hr, hlive, hri⟩ := State.mem_liveOn.1 hl
      exact ⟨r, hr, LeaseRecord.not_ended_of_live hlive, hri⟩
    · obtain ⟨r, hr, hw, hri⟩ := (hsuits.waiting l).1 hl
      exact ⟨r, hr, by simp [hw], hri⟩
  have hnodup : (s.liveOn i ++ e.queue).Nodup := by
    refine List.nodup_append.2 ⟨s.liveOn_nodup i, hsuits.nodup, ?_⟩
    rintro l hl k hk rfl
    obtain ⟨r, hr, hlive, -⟩ := State.mem_liveOn.1 hl
    obtain ⟨q, hq, hw, -⟩ := (hsuits.waiting l).1 hk
    cases hr.symm.trans hq
    exact LeaseRecord.not_waiting_of_live hlive hw
  have hinj : ((s.liveOn i ++ e.queue).map s.claimant).Nodup := by
    refine List.Nodup.map_on (fun l hl k hk hlk => ?_) hnodup
    obtain ⟨r, hr, hrs, hri⟩ := hclaim l hl
    obtain ⟨q, hq, hqs, hqi⟩ := hclaim k hk
    exact (h.but i).once l k r q hr hq hrs hqs (by simpa [State.claimant, hr, hq] using hlk)
      (hri.trans hqi.symm)
  have := hinj.length_le_card
  simpa [hsuits.holders] using this

/-- Settles O56: each change of the tables keeps the laws of the records, and they bound the claims. -/
theorem stepsKeepTheRecordLaws : Obligations.StepsKeepTheRecordLaws := by
  intro s t ⟨_, how, _, h, _⟩ hstep
  obtain ⟨rest, v, hv, ht⟩ := step_changes hstep
  have hrest : ({ s with pending := rest } : State).recordLaws := h.congr rfl
  have hlaws : t.recordLaws := (hv.recordLaws hrest how).congr ht
  exact ⟨hlaws, fun i e he => hlaws.claims_le he⟩

/-! ### Generations (R6) -/

/-- What R6 says of a step from `s` to `t`. -/
def State.generationsRise (s t : State) : Prop :=
  (∀ i e f, s.entry i = some e → t.entry i = some f → e.generation.toNat ≤ f.generation.toNat) ∧
  ∀ l r e g, t.record l = some r → r.mode = .exclusive → r.token = some g →
    (∀ q, s.record l = some q → q.token ≠ some g) → s.entry r.resource = some e →
    e.generation.toNat < g.toNat

theorem State.Advances.generationsRise {s t : State} (h : s.Advances t) : s.generationsRise t := by
  refine ⟨fun i e f he hf => ?_, fun l r e g hr hm hg hnew he => ?_⟩
  · obtain ⟨f', hf', hle⟩ := h.generation i e he
    cases hf.symm.trans hf'
    exact hle
  · rcases h.token l r g hr hm hg with ⟨q, hq, -, -, hqt⟩ | hlt
    · exact absurd hqt (hnew q hq)
    · exact hlt e he

theorem State.generationsRise.congr {s t u : State} (h : s.generationsRise t)
    (hu : u.tables = t.tables) : s.generationsRise u := by
  simpa only [State.generationsRise, State.entry_congr hu, State.record_congr hu] using h

theorem State.generationsRise_vacate (s : State) (i : DirSlot) :
    s.generationsRise (s.setEntry i none) := by
  refine ⟨fun j e f he hf => ?_, fun l r e g hr hm hg hnew he => absurd hg (hnew r hr)⟩
  rw [State.entry_setEntry] at hf
  split at hf
  · cases hf
  · cases he.symm.trans hf
    exact le_refl _

theorem State.generationsRise_coldReset (s : State) (low adr : Bool) :
    s.generationsRise (s.coldReset low adr) :=
  ⟨fun i e f he hf => by simp [State.entry_coldReset] at hf,
    fun l r e g hr => by simp [State.record_coldReset] at hr⟩

/-- Settles O58: a change leads to advanced generations, or leaves slots VACANT. -/
theorem generationsNeverDecrease : Obligations.GenerationsNeverDecrease := by
  intro s t ⟨_, how, _, h, _⟩ hstep
  obtain ⟨rest, v, hv, ht⟩ := step_changes hstep
  have hrest : ({ s with pending := rest } : State).recordLaws := h.congr rfl
  refine State.generationsRise.congr (s := { s with pending := rest }) ?_ ht
  rcases hv.leadsTo hrest how with hlead | ⟨i, -, rfl⟩ | ⟨low, adr, rfl⟩
  · exact hlead.advances.generationsRise
  · exact State.generationsRise_vacate _ i
  · exact State.generationsRise_coldReset _ low adr

end Sys2Proof.Machine
end

section
/-! SUPPORT. The commands of the directory: keys, the bytes that spell bindings, and the answers of DEFINE,
AMEND, DELETE and QUERY RESOURCE. -/

namespace Sys2Proof.Machine

/-! ### Answers of commands -/

/-- A management command whose body answers `a`. -/
theorem State.management_answers {s : State} {code : Byte} {args : List Byte} {len : Nat}
    (h : s.nextTake = some (4, ⟨code, args⟩)) (hl : args.length = len)
    {body : PortIx → List Byte → State → Answer} {a : Answer} (hb : body 4 args s = a) :
    s.management code len body = a.state.answer 4 code a.status a.fields := by
  rw [State.management_own h hl, hb]

/-- A command of any port whose body answers `a`. -/
theorem State.command_answers {s : State} {p : PortIx} {code : Byte} {args : List Byte} {len : Nat}
    (h : s.nextTake = some (p, ⟨code, args⟩)) (hl : args.length = len)
    {body : PortIx → List Byte → State → Answer} {a : Answer} (hb : body p args s = a) :
    s.command code len body = a.state.answer p code a.status a.fields := by
  rw [State.command_own h hl, hb]

/-! ### Keys (R1) -/

theorem State.directoryLaws.findKey_iff {s : State} (h : s.directoryLaws) {key : Word} {i : DirSlot}
    {e : Entry} : s.findKey key = some (i, e) ↔ s.entry i = some e ∧ e.key = key := by
  refine ⟨State.findKey_some, fun ⟨he, hk⟩ => ?_⟩
  cases hf : s.findKey key with
  | none => exact absurd hk (State.findKey_none_iff.1 hf i e he)
  | some found =>
    obtain ⟨j, f⟩ := found
    obtain ⟨hj, hfk⟩ := State.findKey_some hf
    cases h.2.1 i j e f he hj (hk.trans hfk.symm)
    cases he.symm.trans hj
    rfl

section UnknownKey

variable {s : State} {args : List Byte}

theorem amendResource_unknown (h : s.findKey (argWord args 0) = none) (p : PortIx) :
    amendResource p args s = s.refuse .noResource := by simp only [amendResource, h]

theorem deleteResource_unknown (h : s.findKey (argWord args 0) = none) (p : PortIx) :
    deleteResource p args s = s.refuse .noResource := by simp only [deleteResource, h]

theorem queryResource_unknown (h : s.findKey (argWord args 0) = none) (p : PortIx) :
    queryResource p args s = s.refuse .noResource := by simp only [queryResource, h]

theorem forceRevoke_unknown (h : s.findKey (argWord args 0) = none) (lines : BusLines) (p : PortIx) :
    forceRevoke lines p args s = s.refuse .noResource := by simp only [forceRevoke, h]

theorem clearFenceAccept_unknown (h : s.findKey (argWord args 0) = none) (ha : argByte args 4 = 0)
    (p : PortIx) : clearFenceAccept p args s = s.refuse .noResource := by
  simp only [clearFenceAccept, h, ha, ne_eq, not_true_eq_false, if_false]

theorem clearFenceRetry_unknown (h : s.findKey (argWord args 0) = none) (lines : BusLines) (p : PortIx) :
    clearFenceRetry lines p args s = s.refuse .noResource := by simp only [clearFenceRetry, h]

/-- A CLEAR FENCE frame runs the row that its action byte selects, after the checks of R169. -/
theorem State.take_clearFence {row : Frame → Bool} {body : PortIx → List Byte → State → Answer}
    (h : s.nextTake = some (4, ⟨Code.clearFence, args⟩)) (hl : args.length = 5)
    (hr : row ⟨Code.clearFence, args⟩ = true) {a : Answer} (hb : body 4 args s = a) :
    s.take row (checked true 5 body) = a.state.answer 4 Code.clearFence a.status a.fields := by
  rw [State.take_own h hr]
  simp only [checked_body (management := true) (p := 4) (by simp) hl, hb]

theorem exec_clearFence_unknown (h : s.nextTake = some (4, ⟨Code.clearFence, args⟩))
    (hl : args.length = 5) (ha : (argByte args 4).toNat ≤ 1)
    (hk : s.findKey (argWord args 0) = none) (lines : BusLines) :
    exec (Frame.event ⟨Code.clearFence, args⟩ lines) s =
      .next (s.answer 4 Code.clearFence .noResource []) := by
  by_cases h1 : argByte args 4 = 1
  · have hevent : Frame.event ⟨Code.clearFence, args⟩ lines = .clearFenceRetry lines := by
      show (if argByte args 4 = 1 then Instr.clearFenceRetry lines else .clearFenceAccept) = _
      rw [if_pos h1]
    rw [hevent]
    exact congrArg _ (State.take_clearFence h hl (by simp [h1]) (clearFenceRetry_unknown hk lines 4))
  · have h0 : argByte args 4 = 0 := by bv_omega
    have hevent : Frame.event ⟨Code.clearFence, args⟩ lines = .clearFenceAccept := by
      show (if argByte args 4 = 1 then Instr.clearFenceRetry lines else .clearFenceAccept) = _
      rw [if_neg h1]
    rw [hevent]
    exact congrArg _ (State.take_clearFence h hl (by simp [h0]) (clearFenceAccept_unknown hk h0 4))

end UnknownKey

/-- Settles O15: the search finds a key's entry, and without one each of the five commands refuses. -/
theorem keysNameEntries : Obligations.KeysNameEntries := by
  refine ⟨fun s key => State.findKey_none_iff, fun s key i e h => h.findKey_iff,
    fun s p code args lines hnext hcmd hnone => ?_⟩
  have hk : s.findKey (argWord args 0) = none := State.findKey_none_iff.2 hnone
  rcases hcmd with ⟨rfl, rfl, hl⟩ | ⟨rfl, rfl, hl⟩ | ⟨rfl, hl⟩ | ⟨rfl, rfl, hl⟩ | ⟨rfl, rfl, hl, ha⟩
  · exact congrArg _ (State.management_answers hnext hl (amendResource_unknown hk 4))
  · exact congrArg _ (State.management_answers hnext hl (deleteResource_unknown hk 4))
  · exact congrArg _ (State.command_answers hnext hl (queryResource_unknown hk p))
  · exact congrArg _ (State.management_answers hnext hl (forceRevoke_unknown hk lines 4))
  · exact exec_clearFence_unknown hnext hl ha hk lines

/-! ### The bytes of bindings (R176) -/

theorem decodeProfileNo_iff {b : Byte} {n : Option ProfileNo} :
    decodeProfileNo b = some n ↔ spellsProfile b n := by
  unfold decodeProfileNo spellsProfile
  split
  · next hb => simp [hb, eq_comm]
  · next hb =>
    simp only [Option.map_eq_some_iff, ranged_eq_some_iff, hb, false_and, ne_eq, not_false_eq_true,
      true_and, false_or]
    exact exists_congr fun k =>
      ⟨fun ⟨hb, hn⟩ => ⟨hn.symm, hb.symm⟩, fun ⟨hn, hb⟩ => ⟨hb.symm, hn.symm⟩⟩

theorem State.profileByteBad_iff {s : State} {b : Byte} :
    s.profileByteBad b ↔ ∀ n, decodeProfileNo b = some n → s.profileUsable n = false := by
  simp only [decodeProfileNo_iff, spellsProfile, State.profileByteBad]
  constructor
  · rintro ⟨hb, hk⟩ n (⟨hff, -⟩ | ⟨-, k, rfl, hkb⟩)
    · exact absurd hff hb
    · simp [State.profileUsable, hk k hkb]
  · intro h
    have hb : b ≠ 0xFF := fun hff => by simpa [State.profileUsable] using h none (.inl ⟨hff, rfl⟩)
    refine ⟨hb, fun k hkb => ?_⟩
    simpa [State.profileUsable] using h (some k) (.inr ⟨hb, k, rfl, hkb⟩)

theorem decodeLineMode_iff {b : Byte} {m : LineMode} : decodeLineMode b = some m ↔ m.code = b := by
  unfold decodeLineMode
  split
  · next hb => subst hb; cases m <;> simp [LineMode.code]
  · split
    · next hb => subst hb; cases m <;> simp [LineMode.code]
    · next h0 h1 =>
      cases m with
      | any => exact ⟨(nomatch ·), fun h => absurd h.symm h0⟩
      | exclusive => exact ⟨(nomatch ·), fun h => absurd h.symm h1⟩

theorem decodeLineMode_none_iff {b : Byte} : decodeLineMode b = none ↔ 1 < b.toNat := by
  unfold decodeLineMode
  split
  · next hb => subst hb; simp
  · split
    · next hb => subst hb; simp
    · next h0 h1 =>
      simp only [true_iff]
      bv_omega

theorem decodeLine_iff {line mode : Byte} {b : Option LineBinding} :
    decodeLine line mode = some b ↔ spellsLine line mode b := by
  unfold decodeLine spellsLine
  split
  · next hl => simp [hl, eq_comm]
  · next hl =>
    simp only [hl, false_and, ne_eq, not_false_eq_true, true_and, false_or]
    constructor
    · intro h
      split at h
      · next l m hl' hm =>
        cases h
        exact ⟨_, rfl, (ranged_eq_some_iff.1 hl').symm, decodeLineMode_iff.1 hm⟩
      · cases h
    · rintro ⟨k, rfl, hk, hm⟩
      simp only [ranged_some hk.symm, decodeLineMode_iff.2 hm]

theorem lineBytesBad_iff {line mode : Byte} : lineBytesBad line mode ↔ decodeLine line mode = none := by
  unfold lineBytesBad decodeLine
  split
  · next hl => simp [hl]
  · next hl =>
    simp only [ne_eq, hl, not_false_eq_true, true_and, ← decodeLineMode_none_iff,
      show 15 < line.toNat ↔ ranged 16 line = none by rw [ranged_eq_none_iff]; omega]
    cases ranged 16 line <;> cases decodeLineMode mode <;> simp

theorem State.lineByteTaken_iff {s : State} {self : Option DirSlot} {line mode : Byte}
    {b : Option LineBinding} (h : decodeLine line mode = some b) :
    s.lineByteTaken self line ↔ s.lineTaken self b = true := by
  rw [← Bool.not_eq_false, State.lineTaken_false_iff]
  unfold State.lineByteTaken
  rcases decodeLine_iff.1 h with ⟨hl, rfl⟩ | ⟨hl, k, rfl, hk, -⟩
  · simp [hl]
  · simp only [ne_eq, hl, not_false_eq_true, true_and, Option.some.injEq, forall_eq', not_forall,
      exists_prop, not_not]
    constructor
    · rintro ⟨j, f, d, hj, hf, hd, hdl⟩
      exact ⟨j, f, d, hj, hf, hd, Fin.ext (hdl.trans hk.symm)⟩
    · rintro ⟨j, f, d, hj, hf, hd, hdl⟩
      exact ⟨j, f, d, hj, hf, hd, by rw [hdl, hk]⟩

/-! ### DEFINE RESOURCE (R14) -/

/-- The arguments of DEFINE RESOURCE out of range, but for the validity of the profile. -/
theorem decodeDefine_none_iff {args : List Byte} : decodeDefine args = none ↔
    argWord args 0 = 0 ∨ argHalf args 4 = 0 ∨ 7 < (argByte args 9).toNat ∨
      decodeProfileNo (argByte args 10) = none ∨ lineBytesBad (argByte args 11) (argByte args 12) := by
  unfold decodeDefine
  rw [lineBytesBad_iff, show 7 < (argByte args 9).toNat ↔ ranged 8 (argByte args 9) = none by
    rw [ranged_eq_none_iff]; omega]
  cases ranged 8 (argByte args 9) <;> cases decodeProfileNo (argByte args 10) <;>
    cases decodeLine (argByte args 11) (argByte args 12) <;> simp [or_iff_not_imp_left]

/-- What the decoded arguments of DEFINE RESOURCE are. -/
theorem decodeDefine_spelled {args : List Byte} {a : DefineArgs} (h : decodeDefine args = some a) :
    a.key = argWord args 0 ∧
    a.policy = { term := argHalf args 4, warnLead := argHalf args 6, renewLimit := argByte args 8 } ∧
    ranged 8 (argByte args 9) = some a.priority ∧ decodeProfileNo (argByte args 10) = some a.profile ∧
    decodeLine (argByte args 11) (argByte args 12) = some a.line := by
  unfold decodeDefine at h
  split at h
  · next hr hp hl =>
    split at h
    · cases h
    · cases h
      exact ⟨rfl, rfl, hr, hp, hl⟩
  · cases h

/-- Settles O39: the checks of DEFINE RESOURCE in their order, and the new entry. -/
theorem defineResourceFillsTheLowestVacantSlot :
    Obligations.DefineResourceFillsTheLowestVacantSlot := by
  intro s args hnext hlen key term answered bad known full taken
  have hrun : ∀ a : Answer, defineResource 4 args s = a →
      exec .defineResource s = .next (a.state.answer 4 Code.defineResource a.status a.fields) :=
    fun a ha => congrArg _ (State.management_answers hnext hlen ha)
  have hanswered : ∀ st, defineResource 4 args s = s.refuse st → answered st := fun st h => hrun _ h
  cases hd : decodeDefine args with
  | none =>
    have hbad : bad := by
      rcases decodeDefine_none_iff.1 hd with h | h | h | h | h
      · exact .inl h
      · exact .inr (.inl h)
      · exact .inr (.inr (.inl h))
      · exact .inr (.inr (.inr (.inl (State.profileByteBad_iff.2 (by simp [h])))))
      · exact .inr (.inr (.inr (.inr h)))
    exact ⟨fun _ => hanswered .badArg (by simp only [defineResource, hd]), fun h => absurd hbad h,
      fun h => absurd hbad h, fun h => absurd hbad h, fun h => absurd hbad h⟩
  | some a =>
    obtain ⟨hkey, hpol, hprio, hprof, hline⟩ := decodeDefine_spelled hd
    -- the profile's validity is what the decoding leaves to check
    have hbad : bad ↔ s.profileUsable a.profile = false := by
      have hsome : decodeDefine args ≠ none := by simp [hd]
      rw [Ne, decodeDefine_none_iff] at hsome
      simp only [not_or] at hsome
      obtain ⟨hk, ht, hr, -, hl⟩ := hsome
      simp only [bad, key, term, hk, ht, hr, hl, false_or, or_false, State.profileByteBad_iff, hprof,
        Option.some.injEq, forall_eq']
    have hknown : known ↔ (s.findKey a.key).isSome = true := by
      rw [Option.isSome_iff_ne_none, Ne, State.findKey_none_iff]
      simp only [known, key, hkey, not_forall, exists_prop, not_not]
    have hfull : full ↔ lowest 64 (fun i => (s.entry i).isNone) = none := by
      rw [lowest_none_iff]
      simp only [full, Option.isNone_eq_false_iff, Option.isSome_iff_ne_none]
    have htaken : taken ↔ s.lineTaken none a.line = true := State.lineByteTaken_iff hline
    rw [hbad, hknown, hfull, htaken]
    simp only [Bool.not_eq_false, Bool.not_eq_true]
    refine ⟨fun hb => hanswered _ (by simp only [defineResource, hd, hb, if_true]),
      fun hb hk => hanswered _ (by simp [defineResource, hd, hb, hk]),
      fun hb hk hf => hanswered _ (by simp [defineResource, hd, hb, hk, hf]),
      fun hb hk hf ht => ?_, fun hb hk ht i prio n b hi hpr hn hbl => ?_⟩
    · obtain ⟨i, hi⟩ := Option.ne_none_iff_exists'.1 hf
      exact hanswered _ (by simp [defineResource, hd, hb, hk, hi, ht])
    · have hlow : lowest 64 (fun i => (s.entry i).isNone) = some i :=
        lowest_some_iff.2 (by simpa using hi)
      cases hprof.symm.trans (decodeProfileNo_iff.2 hn)
      cases hline.symm.trans (decodeLine_iff.2 hbl)
      cases hprio.symm.trans (ranged_some hpr.symm)
      rw [hrun { state := s.setEntry i (some (newEntry a)), status := .ok, fields := natByte i :: wordBytes 1 }
        (by simp [defineResource, hd, hb, hk, hlow, ht])]
      simp only [newEntry, hkey, hpol]
      rfl

/-! ### AMEND RESOURCE (R15, R16) -/

theorem namedField_none_iff {α : Type} {named : Bool} {value : Option α} :
    namedField named value = none ↔ named = true ∧ value = none := by
  cases named <;> simp [namedField]

/-- A field replaced where it is named takes the value that its argument spells, and stays otherwise. -/
theorem namedField_getD {α : Type} {named : Bool} {value w : Option α} {old new : α} {spells : Prop}
    (h : namedField named value = some w) (hs : spells → value = some new)
    (hn : if named then spells else new = old) : w.getD old = new := by
  cases named with
  | false =>
    simp only [namedField, Bool.false_eq_true, if_false, Option.some.injEq] at h hn
    rw [← h, hn, Option.getD_none]
  | true =>
    simp only [namedField, if_true] at h hn
    rw [hs hn, Option.map_some, Option.some.injEq] at h
    rw [← h, Option.getD_some]

/-- A check of a named field passes where the field is not named. -/
theorem namedField_check {α : Type} {named : Bool} {value : Option (Option α)} {w : Option (Option α)}
    (h : namedField named value = some w) {P : Option α → Prop} (hP : ¬ P none) :
    P (w.getD none) ↔ named = true ∧ ∃ x, value = some x ∧ P x := by
  cases named with
  | false =>
    simp only [namedField, Bool.false_eq_true, if_false, Option.some.injEq] at h
    simp [← h, hP]
  | true =>
    simp only [namedField, if_true, Option.map_eq_some_iff] at h
    obtain ⟨x, hx, rfl⟩ := h
    simp [hx]

/-- Whether the named-field byte names field `k` (R15, R176). -/
def amendNames (args : List Byte) (k : Nat) : Bool := (argByte args 4).getLsbD k

/-- The term argument, none when it is 0. -/
def amendTerm (args : List Byte) : Option Half :=
  if argHalf args 5 = 0 then none else some (argHalf args 5)

theorem amendTerm_none_iff {args : List Byte} : amendTerm args = none ↔ argHalf args 5 = 0 := by
  simp [amendTerm]

/-- The arguments of AMEND RESOURCE out of range, but for the validity of the profile. -/
theorem decodeAmend_none_iff {args : List Byte} : decodeAmend args = none ↔
    (amendNames args 0 = true ∧ argHalf args 5 = 0) ∨
    (amendNames args 3 = true ∧ 7 < (argByte args 10).toNat) ∨
    (amendNames args 4 = true ∧ decodeProfileNo (argByte args 11) = none) ∨
    (amendNames args 5 = true ∧ lineBytesBad (argByte args 12) (argByte args 13)) ∨
    amendNames args 6 = true ∨ amendNames args 7 = true := by
  rw [lineBytesBad_iff, show 7 < (argByte args 10).toNat ↔ ranged 8 (argByte args 10) = none by
    rw [ranged_eq_none_iff]; omega, ← amendTerm_none_iff]
  simp only [← namedField_none_iff]
  unfold decodeAmend
  dsimp only
  change (match namedField (amendNames args 0) (amendTerm args),
      namedField (amendNames args 3) (ranged 8 (argByte args 10)),
      namedField (amendNames args 4) (decodeProfileNo (argByte args 11)),
      namedField (amendNames args 5) (decodeLine (argByte args 12) (argByte args 13)) with
    | some _, some _, some _, some _ => if amendNames args 6 || amendNames args 7 then none else some _
    | _, _, _, _ => none) = none ↔ _
  cases namedField (amendNames args 0) (amendTerm args) <;>
    cases namedField (amendNames args 3) (ranged 8 (argByte args 10)) <;>
    cases namedField (amendNames args 4) (decodeProfileNo (argByte args 11)) <;>
    cases namedField (amendNames args 5) (decodeLine (argByte args 12) (argByte args 13)) <;>
    simp [or_iff_not_imp_left]

/-- What the decoded arguments of AMEND RESOURCE are. -/
theorem decodeAmend_spelled {args : List Byte} {a : AmendArgs} (h : decodeAmend args = some a) :
    a.term = (if amendNames args 0 then some (argHalf args 5) else none) ∧
    a.warnLead = (if amendNames args 1 then some (argHalf args 7) else none) ∧
    a.renewLimit = (if amendNames args 2 then some (argByte args 9) else none) ∧
    namedField (amendNames args 3) (ranged 8 (argByte args 10)) = some a.priority ∧
    namedField (amendNames args 4) (decodeProfileNo (argByte args 11)) = some a.profile ∧
    namedField (amendNames args 5) (decodeLine (argByte args 12) (argByte args 13)) = some a.line := by
  unfold decodeAmend at h
  dsimp only at h
  split at h
  · next h0 h3 h4 h5 =>
    split at h
    · cases h
    · cases h
      refine ⟨?_, rfl, rfl, h3, h4, h5⟩
      change namedField (amendNames args 0) (amendTerm args) = _ at h0
      cases hn : amendNames args 0 with
      | false => simpa [hn, namedField, eq_comm] using h0
      | true =>
        simp only [hn, namedField, if_true, Option.map_eq_some_iff] at h0
        obtain ⟨x, hx, rfl⟩ := h0
        unfold amendTerm at hx
        split at hx
        · cases hx
        · exact hx.symm
  · cases h

section Amended

variable {args : List Byte} {a : AmendArgs}

theorem State.amend_profile_bad (s : State) (h : decodeAmend args = some a) :
    s.profileUsable (a.profile.getD none) = false ↔
      amendNames args 4 = true ∧ s.profileByteBad (argByte args 11) := by
  obtain ⟨-, -, -, -, hprof, -⟩ := decodeAmend_spelled h
  rw [namedField_check hprof (P := fun n => s.profileUsable n = false) (by simp [State.profileUsable]),
    State.profileByteBad_iff]
  refine and_congr_right fun hn => ?_
  rw [hn] at hprof
  cases hd : decodeProfileNo (argByte args 11) with
  | none => simp [namedField, hd] at hprof
  | some n => simp

theorem State.amend_line_taken (s : State) (h : decodeAmend args = some a) (i : DirSlot) :
    s.lineTaken (some i) (a.line.getD none) = true ↔
      amendNames args 5 = true ∧ s.lineByteTaken (some i) (argByte args 12) := by
  obtain ⟨-, -, -, -, -, hline⟩ := decodeAmend_spelled h
  rw [namedField_check hline (P := fun b => s.lineTaken (some i) b = true) (by simp [State.lineTaken])]
  refine and_congr_right fun hn => ?_
  rw [hn] at hline
  cases hd : decodeLine (argByte args 12) (argByte args 13) with
  | none => simp [namedField, hd] at hline
  | some b => simp [State.lineByteTaken_iff hd]

theorem amendPolicy_spelled (h : decodeAmend args = some a) (q : Policy) :
    a.amendPolicy q =
      { term := if amendNames args 0 then argHalf args 5 else q.term
        warnLead := if amendNames args 1 then argHalf args 7 else q.warnLead
        renewLimit := if amendNames args 2 then argByte args 9 else q.renewLimit } := by
  obtain ⟨hterm, hlead, hlimit, -⟩ := decodeAmend_spelled h
  simp only [AmendArgs.amendPolicy, hterm, hlead, hlimit, Policy.mk.injEq]
  refine ⟨?_, ?_, ?_⟩ <;> split <;> rfl

theorem namesPolicy_spelled (h : decodeAmend args = some a) :
    a.namesPolicy = (amendNames args 0 || amendNames args 1 || amendNames args 2) := by
  obtain ⟨hterm, hlead, hlimit, -⟩ := decodeAmend_spelled h
  have hsome : ∀ (c : Bool) {α : Type} (x : α), (if c then some x else none : Option α).isSome = c := by
    intro c α x
    cases c <;> rfl
  simp only [AmendArgs.namesPolicy, hterm, hlead, hlimit, hsome]

/-- An amendment that names no policy field amends no policy. -/
theorem AmendArgs.amendPolicy_of_not_names {a : AmendArgs} (h : a.namesPolicy = false) (q : Policy) :
    a.amendPolicy q = q := by
  simp only [AmendArgs.namesPolicy, Bool.or_eq_false_iff, Option.isSome_eq_false_iff,
    Option.isNone_iff_eq_none] at h
  obtain ⟨⟨ht, hw⟩, hr⟩ := h
  simp [AmendArgs.amendPolicy, ht, hw, hr]

/-- The amended entry, policy fields at once in FREE and staged in every other state (R9, R16). -/
theorem Entry.amended_eq (e : Entry) (a : AmendArgs) : e.amended a =
    { e with
      priority := a.priority.getD e.priority
      profile := a.profile.getD e.profile
      line := a.line.getD e.line
      current := if e.state = .free then a.amendPolicy e.current else e.current
      staged := if e.state ≠ .free ∧ a.namesPolicy = true
        then some (a.amendPolicy (e.staged.getD e.current)) else e.staged } := by
  unfold Entry.amended
  cases hn : a.namesPolicy with
  | false => simp [AmendArgs.amendPolicy_of_not_names hn]
  | true => by_cases hfree : e.state = .free <;> simp [hfree]

end Amended

/-- Settles O40: the checks of AMEND RESOURCE in their order, and the amended entry. -/
theorem amendResourceChangesTheNamedFields : Obligations.AmendResourceChangesTheNamedFields := by
  intro s args i e hnext hlen hfind named bad taken
  have hrun : ∀ a : Answer, amendResource 4 args s = a →
      exec .amendResource s = .next (a.state.answer 4 Code.amendResource a.status a.fields) :=
    fun a ha => congrArg _ (State.management_answers hnext hlen ha)
  cases hd : decodeAmend args with
  | none =>
    have hbad : bad := by
      rcases decodeAmend_none_iff.1 hd with h | h | ⟨hn, hp⟩ | h
      · exact .inl h
      · exact .inr (.inl h)
      · exact .inr (.inr (.inl ⟨hn, State.profileByteBad_iff.2 (by simp [hp])⟩))
      · exact .inr (.inr (.inr h))
    exact ⟨fun _ => hrun (s.refuse .badArg) (by simp only [amendResource, hfind, hd]),
      fun h => absurd hbad h, fun h => absurd hbad h⟩
  | some a =>
    -- the profile's validity is what the decoding leaves to check
    have hbad : bad ↔ s.profileUsable (a.profile.getD none) = false := by
      have hsome := (not_congr decodeAmend_none_iff).1 (show decodeAmend args ≠ none by simp [hd])
      simp only [not_or] at hsome
      obtain ⟨h0, h3, -, h5, h6, h7⟩ := hsome
      rw [s.amend_profile_bad hd]
      refine ⟨?_, fun h => .inr (.inr (.inl h))⟩
      rintro (h | h | h | h | h | h)
      exacts [absurd h h0, absurd h h3, h, absurd h h5, absurd h h6, absurd h h7]
    rw [hbad, show taken ↔ _ from (s.amend_line_taken hd i).symm]
    simp only [Bool.not_eq_false, Bool.not_eq_true]
    refine ⟨fun hb => hrun (s.refuse .badArg) (by simp [amendResource, hfind, hd, hb]),
      fun hb ht => hrun (s.refuse .lineBound) (by simp [amendResource, hfind, hd, hb, ht]),
      fun hb ht prio n b hprio hprof hline => ?_⟩
    rw [hrun { state := s.setEntry i (some (e.amended a)), status := .ok, fields := [] }
      (by simp [amendResource, hfind, hd, hb, ht]), Entry.amended_eq]
    obtain ⟨-, -, -, hspr, hspf, hsln⟩ := decodeAmend_spelled hd
    have hp : a.priority.getD e.priority = prio :=
      namedField_getD hspr (fun h => ranged_some h.symm) hprio
    have hn : a.profile.getD e.profile = n := namedField_getD hspf decodeProfileNo_iff.2 hprof
    have hl : a.line.getD e.line = b := namedField_getD hsln decodeLine_iff.2 hline
    rw [hp, hn, hl, namesPolicy_spelled hd, amendPolicy_spelled hd, amendPolicy_spelled hd]
    rfl

/-! ### DELETE RESOURCE (R17) -/

/-- Settles O41: BUSY for an entry in use, and otherwise a VACANT slot without alerts. -/
theorem deleteResourceVacatesAnUnusedSlot : Obligations.DeleteResourceVacatesAnUnusedSlot := by
  intro s args i e hnext hlen hfind busy
  have hrun : ∀ a : Answer, deleteResource 4 args s = a →
      exec .deleteResource s = .next (a.state.answer 4 Code.deleteResource a.status a.fields) :=
    fun a ha => congrArg _ (State.management_answers hnext hlen ha)
  have hbusy : busy ↔ e.state ≠ .free ∨ s.namedByRecord i = true := by
    rw [State.namedByRecord_iff]
  rw [hbusy]
  constructor
  · intro hb
    exact hrun (s.refuse .busy) (by simp only [deleteResource, hfind, if_pos hb])
  · intro hb
    exact hrun { state := (s.setEntry i none).clearResourceAlerts i, status := .ok, fields := [] }
      (by simp only [deleteResource, hfind, if_neg hb])

end Sys2Proof.Machine
end

section
/-! SUPPORT. The answers of QUERY LEASE and QUERY RESOURCE, what a holder that leaves does at its entry, and
the grant check head by head. -/

namespace Sys2Proof.Machine

/-! ### Queries (R18, R38) -/

/-- A WAITING record's position is its place in the queue, 1 being the head; other records have none. -/
theorem State.queuePosition_eq {s : State} {l : LeaseSlot} {r : LeaseRecord} {e : Entry}
    {position : Nat} (he : s.entry r.resource = some e) (hno : r.state ≠ .waiting → position = 0)
    (hyes : r.state = .waiting → 1 ≤ position ∧ e.queue[position - 1]? = some l ∧
      ∀ j, j + 1 < position → e.queue[j]? ≠ some l) :
    s.queuePosition l r = if position = 0 then none else some position := by
  unfold State.queuePosition
  by_cases hw : r.state = .waiting
  · obtain ⟨hpos, hat, hbefore⟩ := hyes hw
    obtain ⟨k, rfl⟩ : ∃ k, position = k + 1 := ⟨position - 1, by omega⟩
    obtain ⟨hk, hkl⟩ := List.getElem?_eq_some_iff.1 hat
    have hidx : e.queue.idxOf? l = some k := by
      refine List.findIdx?_eq_some_iff_getElem.2 ⟨hk, by simpa using hkl, fun j hj hjl => ?_⟩
      refine hbefore j (by omega) (List.getElem?_eq_some_iff.2 ⟨by omega, by simpa using hjl⟩)
    simp [hw, he, hidx]
  · simp [hw, hno hw]

theorem State.keyOf_eq {s : State} {d : DirSlot} {e : Entry} (h : s.entry d = some e) :
    s.keyOf d = e.key := by simp [State.keyOf, h]

/-- Settles O25: both queries answer what stands and change no table. -/
theorem queriesReportAndChangeNothing : Obligations.QueriesReportAndChangeNothing := by
  constructor
  · intro s p args i x l r e position hnext hlen hsession hlease he hno hyes
    have hbody : queryLease p args s = { state := s, status := .ok, fields := s.leaseFields l r } := by
      simp only [queryLease, State.checkHandles_ok hsession (.inr rfl) hlease]
    refine (congrArg Host.Outcome.next (State.command_answers hnext hlen hbody)).trans ?_
    congr 2
    have hpos := State.queuePosition_eq he hno hyes
    have hpresent : (s.queuePosition l r).isSome = decide (position ≠ 0) := by
      rw [hpos]; split <;> simp [*]
    have hplace : (s.queuePosition l r).getD 0 = position := by
      rw [hpos]; split <;> simp [*]
    simp only [State.leaseFields, State.keyOf_eq he, State.handleBytes, optWordBytes, hpresent, hplace,
      List.cons_append, List.nil_append, List.append_assoc]
    cases r.notice <;> rfl
  · intro s p args i e hnext hlen hfind
    have hbody : queryResource p args s =
        { state := s, status := .ok, fields := s.resourceFields e } := by
      simp only [queryResource, hfind]
    refine (congrArg Host.Outcome.next (State.command_answers hnext hlen hbody)).trans ?_
    unfold State.resourceFields
    cases e.exclusiveHolder <;> rfl

/-! ### Leaving an entry (R5, R10, R104) -/

/-- Settles O29: a holder dropped, and an exclusive revocation, at the entry. -/
theorem leavingHoldersGiveUpTheEntry : Obligations.LeavingHoldersGiveUpTheEntry := by
  intro s i l e lines he given
  refine ⟨fun hone => ?_, fun hmany hnone => ?_, fun n p hprofile hvalid => ?_, fun hprofile => ?_⟩
  · simp only [State.dropHolder, he, hone, le_refl, if_true]
    rfl
  · simp only [State.dropHolder, he, if_neg (not_le.2 hmany), hnone, reduceCtorEq, if_false]
  · have hprof : s.profileOf e = some p := by simp [State.profileOf, hprofile, hvalid]
    simp only [State.revokeExclusive, he, hprof]
    rfl
  · have hprof : s.profileOf e = none := by simp [State.profileOf, hprofile]
    simp only [State.revokeExclusive, he, hprof]
    rfl

/-! ### The grant check (R53 to R56) -/

theorem grantSteps_eq_grantCheck {s : State} {i : DirSlot} {q : List LeaseSlot}
    (h : (s.entry i).map Entry.queue = some q) : grantSteps i q s = s.grantCheck i := by
  unfold State.grantCheck
  obtain ⟨e, he, rfl⟩ := Option.map_eq_some_iff.1 h
  simp only [he]

section Head

variable {s : State} {i : DirSlot} {e : Entry} {l : LeaseSlot} {rest : List LeaseSlot}
  {r : LeaseRecord}

theorem State.grantCheck_idle (he : s.entry i = some e)
    (h : (e.state ≠ .free ∧ e.state ≠ .heldShared) ∨ e.queue = []) : s.grantCheck i = s := by
  unfold State.grantCheck
  simp only [he]
  rcases h with ⟨hfree, hshared⟩ | hq
  · cases e.queue with
    | nil => rfl
    | cons l rest => simp only [grantSteps, he, hfree, hshared, or_self, if_false]
  · rw [hq]
    rfl

variable (he : s.entry i = some e) (hst : e.state = .free ∨ e.state = .heldShared)
  (hq : e.queue = l :: rest) (hr : s.record l = some r)

include he hst hq hr

theorem State.grantCheck_shared (hm : r.mode = .shared) :
    s.grantCheck i = (s.grantHead i { e with queue := rest } l r).grantCheck i := by
  rw [← grantSteps_eq_grantCheck (s := s.grantHead i _ l r) (q := rest)
    (by simp [State.grantHead, hm, Entry.granted])]
  simp only [State.grantCheck, he, hq, grantSteps, if_pos hst, hr, hm]

theorem State.grantCheck_exclusive (hm : r.mode = .exclusive) (hsp : e.spent = false) :
    s.grantCheck i = if e.state = .free then s.grantHead i { e with queue := rest } l r else s := by
  simp only [State.grantCheck, he, hq, grantSteps, if_pos hst, hr, hm, hsp, Bool.false_eq_true, if_false]

theorem State.grantCheck_spent (hm : r.mode = .exclusive) (hsp : e.spent = true) :
    s.grantCheck i = (s.endSpentHead i { e with queue := rest } l).grantCheck i := by
  have hqueue : ∀ t : State, (t.entry i).map Entry.queue = some rest →
      ((t.reportSpent i).entry i).map Entry.queue = some rest := by
    intro t ht
    obtain ⟨f, hf, hfq⟩ := Option.map_eq_some_iff.1 ht
    unfold State.reportSpent
    simp only [hf]
    split
    · exact ht
    · exact (congrArg (Option.map Entry.queue) (State.entry_setEntry_self t i _)).trans
        (congrArg some hfq)
  rw [← grantSteps_eq_grantCheck (s := s.endSpentHead i _ l) (q := rest) (hqueue _ (by simp))]
  simp only [State.grantCheck, he, hq, grantSteps, if_pos hst, hr, hm, hsp, if_true]

omit he hst hq in
/-- The end of a spent head, its record written out (R55). -/
theorem State.endSpentHead_eq (hi : r.resource = i) :
    s.endSpentHead i { e with queue := rest } l =
      ((s.setEntry i (some { e with queue := rest })).setRecord l
        (some (r.endedWith .spent e.priority))).reportSpent i := by
  unfold State.endSpentHead
  rw [State.endRecord_some _ (by rw [State.record_setEntry, hr]), State.priorityOf, hi,
    State.entry_setEntry_self]
  rfl

end Head

theorem State.setEntry_setEntry (s : State) (i : DirSlot) (e f : Option Entry) :
    (s.setEntry i e).setEntry i f = s.setEntry i f := by
  simp only [State.setEntry, put_put]

/-- The first report of a spent entry (R7). -/
theorem State.reportSpent_first {s : State} {i : DirSlot} {e : Entry} (he : s.entry i = some e)
    (hr : e.spentReported = false) :
    s.reportSpent i = (s.setEntry i (some { e with spentReported := true })).raiseSpent i := by
  simp only [State.reportSpent, he, hr, Bool.false_eq_true, if_false]

theorem State.reportSpent_again {s : State} {i : DirSlot} {e : Entry} (he : s.entry i = some e)
    (hr : e.spentReported = true) : s.reportSpent i = s := by
  simp only [State.reportSpent, he, hr, if_true]

/-- Settles O30: one step of the grant check for each kind of head. -/
theorem grantCheckServesTheQueueInOrder : Obligations.GrantCheckServesTheQueueInOrder := by
  refine ⟨fun e => by simp [Entry.spent], fun s i e he h => State.grantCheck_idle he h, ?_⟩
  intro s i e l rest r he hst hq hr hi live ended
  have hended : r.endedWith .spent e.priority = ended := rfl
  refine ⟨fun hm => ?_, fun hm hsp hrep => ?_, fun hm hsp hrep => ?_, fun hm hsp hfree => ?_,
    fun hm hsp hshared => ?_⟩
  · rw [State.grantCheck_shared he hst hq hr hm, State.grantHead, hm]
    rfl
  · rw [State.grantCheck_spent he hst hq hr hm hsp, State.endSpentHead_eq hr hi, hended,
      State.reportSpent_again (e := { e with queue := rest }) (by rw [State.entry_setRecord, State.entry_setEntry_self]) hrep]
  · rw [State.grantCheck_spent he hst hq hr hm hsp, State.endSpentHead_eq hr hi, hended,
      State.reportSpent_first (e := { e with queue := rest }) (by rw [State.entry_setRecord, State.entry_setEntry_self]) hrep]
    congr 2
    exact congrArg (State.setRecord · l (some ended)) (s.setEntry_setEntry i _ _)
  · rw [State.grantCheck_exclusive he hst hq hr hm hsp, if_pos hfree, State.grantHead, hm]
    rfl
  · rw [State.grantCheck_exclusive he hst hq hr hm hsp, hshared]
    rfl

end Sys2Proof.Machine
end

section
/-! SUPPORT. The alert set: what its list holds and in which order, what raising and removing change, and
the answers of READ ALERTS and ACK ALERT. -/

namespace Sys2Proof.Machine

/-! ### The list (R155) -/

theorem natByte_toNat {n : Nat} (h : n < 256) : (natByte n).toNat = n := by
  simp only [natByte, BitVec.toNat_ofNat]
  exact Nat.mod_eq_of_lt h

/-- The place of an alert in the order of R155: by directory slot, FENCE_FAILED before GENERATION_SPENT,
and then by session slot. -/
def alertRank (b : List Byte) : Nat :=
  if b.getD 0 0 = 3 then 128 + (b.getD 1 0).toNat
  else 2 * (b.getD 1 0).toNat + (if b.getD 0 0 = 2 then 1 else 0)

/-- The alerts of directory slot `i`. -/
def Alerts.ofSlot (a : Alerts) (i : DirSlot) : List (List Byte) :=
  (if a.fenceFailed.get i then [[1, natByte i, 0, 0]] else []) ++
    (if a.generationSpent.get i then [[2, natByte i, 0, 0]] else [])

/-- The alert of session slot `i`. -/
def Alerts.ofSession (a : Alerts) (i : SessSlot) : List (List Byte) :=
  match a.sessionLapsed.get i with
  | none => []
  | some l => [[3, natByte i, LapseCause.code (some l.cause), natByte l.port]]

theorem Alerts.list_eq (a : Alerts) :
    a.list = (List.finRange 64).flatMap a.ofSlot ++ (List.finRange 16).flatMap a.ofSession := rfl

theorem Alerts.mem_ofSlot {a : Alerts} {i : DirSlot} {b : List Byte} : b ∈ a.ofSlot i ↔
    (a.fenceFailed.get i = true ∧ b = [1, natByte i, 0, 0]) ∨
      (a.generationSpent.get i = true ∧ b = [2, natByte i, 0, 0]) := by
  simp [Alerts.ofSlot]

theorem Alerts.mem_ofSession {a : Alerts} {i : SessSlot} {b : List Byte} : b ∈ a.ofSession i ↔
    ∃ h : LapseAlert, a.sessionLapsed.get i = some h ∧
      b = [3, natByte i, LapseCause.code (some h.cause), natByte h.port] := by
  unfold Alerts.ofSession
  cases a.sessionLapsed.get i <;> simp

theorem Alerts.mem_list {a : Alerts} {b : List Byte} : b ∈ a.list ↔
    (∃ i : DirSlot, a.fenceFailed.get i = true ∧ b = [1, natByte i, 0, 0]) ∨
    (∃ i : DirSlot, a.generationSpent.get i = true ∧ b = [2, natByte i, 0, 0]) ∨
    ∃ (i : SessSlot) (h : LapseAlert), a.sessionLapsed.get i = some h ∧
      b = [3, natByte i, LapseCause.code (some h.cause), natByte h.port] := by
  simp only [Alerts.list_eq, List.mem_append, List.mem_flatMap, List.mem_finRange, true_and,
    Alerts.mem_ofSlot, Alerts.mem_ofSession, exists_or, or_assoc]

/-- The two alerts of directory slot `i` stand at places 2i and 2i + 1. -/
theorem Alerts.rank_ofSlot {a : Alerts} {i : DirSlot} {b : List Byte} (h : b ∈ a.ofSlot i) :
    alertRank b = 2 * i ∨ alertRank b = 2 * i + 1 := by
  have hi : (natByte i).toNat = i := natByte_toNat (by omega)
  rcases Alerts.mem_ofSlot.1 h with ⟨-, rfl⟩ | ⟨-, rfl⟩ <;> simp [alertRank, hi]

/-- The alert of session slot `i` stands at place 128 + i. -/
theorem Alerts.rank_ofSession {a : Alerts} {i : SessSlot} {b : List Byte} (h : b ∈ a.ofSession i) :
    alertRank b = 128 + i := by
  have hi : (natByte i).toNat = i := natByte_toNat (by omega)
  obtain ⟨x, -, rfl⟩ := Alerts.mem_ofSession.1 h
  simp [alertRank, hi]

theorem Alerts.list_ordered (a : Alerts) :
    a.list.Pairwise fun b c => alertRank b < alertRank c := by
  rw [Alerts.list_eq, List.pairwise_append, List.pairwise_flatMap, List.pairwise_flatMap]
  refine ⟨⟨fun i _ => ?_, ?_⟩, ⟨fun i _ => ?_, ?_⟩, fun b hb c hc => ?_⟩
  · unfold Alerts.ofSlot
    split <;> split <;> simp [alertRank]
  · refine (List.sortedLT_finRange 64).pairwise.imp fun {i j} hij b hb c hc => ?_
    have hij : i.val < j.val := hij
    rcases Alerts.rank_ofSlot hb with hb | hb <;> rcases Alerts.rank_ofSlot hc with hc | hc <;> omega
  · unfold Alerts.ofSession
    split <;> simp
  · refine (List.sortedLT_finRange 16).pairwise.imp fun {i j} hij b hb c hc => ?_
    have hij : i.val < j.val := hij
    rw [Alerts.rank_ofSession hb, Alerts.rank_ofSession hc]
    omega
  · obtain ⟨i, -, hb⟩ := List.mem_flatMap.1 hb
    obtain ⟨j, -, hc⟩ := List.mem_flatMap.1 hc
    rw [Alerts.rank_ofSession hc]
    rcases Alerts.rank_ofSlot hb with hb | hb <;> omega

/-! ### Raising and removing (R154, R156) -/

theorem State.held_raiseFenceFailed (s : State) (i : DirSlot) (n : AlertName) :
    (s.raiseFenceFailed i).alerts.held n = true ↔ n = .fenceFailed i ∨ s.alerts.held n = true := by
  cases n with
  | fenceFailed j => by_cases h : j = i <;> simp [State.raiseFenceFailed, Alerts.held, get_put, h]
  | generationSpent j => simp [State.raiseFenceFailed, Alerts.held]
  | sessionLapsed j => simp [State.raiseFenceFailed, Alerts.held]

theorem State.held_raiseSpent (s : State) (i : DirSlot) (n : AlertName) :
    (s.raiseSpent i).alerts.held n = true ↔ n = .generationSpent i ∨ s.alerts.held n = true := by
  cases n with
  | fenceFailed j => simp [State.raiseSpent, Alerts.held]
  | generationSpent j => by_cases h : j = i <;> simp [State.raiseSpent, Alerts.held, get_put, h]
  | sessionLapsed j => simp [State.raiseSpent, Alerts.held]

theorem Alerts.held_remove (a : Alerts) (n m : AlertName) :
    (a.remove n).held m = true ↔ m ≠ n ∧ a.held m = true := by
  cases n with
  | fenceFailed i =>
    cases m with
    | fenceFailed j => by_cases h : j = i <;> simp [Alerts.remove, Alerts.held, get_put, h]
    | generationSpent j => simp [Alerts.remove, Alerts.held]
    | sessionLapsed j => simp [Alerts.remove, Alerts.held]
  | generationSpent i =>
    cases m with
    | fenceFailed j => simp [Alerts.remove, Alerts.held]
    | generationSpent j => by_cases h : j = i <;> simp [Alerts.remove, Alerts.held, get_put, h]
    | sessionLapsed j => simp [Alerts.remove, Alerts.held]
  | sessionLapsed i =>
    cases m with
    | fenceFailed j => simp [Alerts.remove, Alerts.held]
    | generationSpent j => simp [Alerts.remove, Alerts.held]
    | sessionLapsed j => by_cases h : j = i <;> simp [Alerts.remove, Alerts.held, get_put, h]

theorem Alerts.sessionLapsed_remove (a : Alerts) (n : AlertName) (i : SessSlot) :
    (a.remove n).sessionLapsed.get i =
      if n = .sessionLapsed i then none else a.sessionLapsed.get i := by
  cases n with
  | fenceFailed j => simp [Alerts.remove]
  | generationSpent j => simp [Alerts.remove]
  | sessionLapsed j => simp only [Alerts.remove, get_put, AlertName.sessionLapsed.injEq, eq_comm]

/-! ### READ ALERTS and ACK ALERT (R155, R156) -/

/-- The two bytes of ACK ALERT that name an alert. -/
def AlertName.spelledBy (kind slot : Byte) : AlertName → Prop
  | .fenceFailed i => kind = 1 ∧ slot.toNat = i.val
  | .generationSpent i => kind = 2 ∧ slot.toNat = i.val
  | .sessionLapsed i => kind = 3 ∧ slot.toNat = i.val

theorem decodeAlert_spelled {kind slot : Byte} {n : AlertName} (h : n.spelledBy kind slot) :
    decodeAlert kind slot = some n := by
  cases n with
  | fenceFailed i =>
    obtain ⟨rfl, hs⟩ := h
    simp [decodeAlert, ranged_some hs]
  | generationSpent i =>
    obtain ⟨rfl, hs⟩ := h
    simp [decodeAlert, ranged_some hs]
  | sessionLapsed i =>
    obtain ⟨rfl, hs⟩ := h
    simp [decodeAlert, ranged_some hs]

theorem decodeAlert_bad {kind slot : Byte} (h : kind = 0 ∨ 3 < kind.toNat ∨
    (kind = 3 ∧ 15 < slot.toNat) ∨ 63 < slot.toNat) : decodeAlert kind slot = none := by
  unfold decodeAlert
  split
  · next hk =>
    subst hk
    rw [ranged_none (n := 64) (by simp at h; omega)]
    rfl
  · split
    · next hk =>
      subst hk
      rw [ranged_none (n := 64) (by simp at h; omega)]
      rfl
    · split
      · next hk =>
        subst hk
        rw [ranged_none (n := 16) (by simp at h; omega)]
        rfl
      · rfl

theorem exec_readAlerts {s : State} {args : List Byte}
    (h : s.nextTake = some (4, ⟨Code.readAlerts, args⟩)) (hl : args.length = 1) {a : Answer}
    (ha : readAlerts 4 args s = a) :
    exec .readAlerts s = .next (a.state.answer 4 Code.readAlerts a.status a.fields) :=
  congrArg _ (State.management_answers h hl ha)

theorem exec_ackAlert {s : State} {args : List Byte}
    (h : s.nextTake = some (4, ⟨Code.ackAlert, args⟩)) (hl : args.length = 2) {a : Answer}
    (ha : ackAlert 4 args s = a) :
    exec .ackAlert s = .next (a.state.answer 4 Code.ackAlert a.status a.fields) :=
  congrArg _ (State.management_answers h hl ha)

/-- An ACK ALERT that names an alert: NONE when it is not held, and otherwise the set without it. -/
theorem exec_ackAlert_named {s : State} {args : List Byte} {n : AlertName}
    (h : s.nextTake = some (4, ⟨Code.ackAlert, args⟩)) (hl : args.length = 2)
    (hn : n.spelledBy (argByte args 0) (argByte args 1)) :
    (s.alerts.held n = false → exec .ackAlert s = .next (s.answer 4 Code.ackAlert .none_ [])) ∧
    (s.alerts.held n = true →
      exec .ackAlert s = .next ({ s with alerts := s.alerts.remove n }.answer 4 Code.ackAlert .ok
        [natByte (s.alerts.remove n).list.length])) := by
  refine ⟨fun hh => exec_ackAlert h hl (a := s.refuse .none_) ?_, fun hh => exec_ackAlert h hl
    (a := { state := { s with alerts := s.alerts.remove n }, status := .ok,
            fields := [natByte (s.alerts.remove n).total] }) ?_⟩
  · simp only [ackAlert, decodeAlert_spelled hn, hh, Bool.false_eq_true, if_false]
  · simp only [ackAlert, decodeAlert_spelled hn, hh, if_true]

/-- Settles O38: the list, the two commands, and what raising and removing change. -/
theorem alertsAreListedAndAcknowledged : Obligations.AlertsAreListedAndAcknowledged := by
  refine ⟨fun s args hnext hlen => ?_, fun a => ⟨fun b => Alerts.mem_list, a.list_ordered⟩,
    fun s args n hnext hlen hn => exec_ackAlert_named hnext hlen ?_,
    fun s args hnext hlen hbad => exec_ackAlert hnext hlen (a := s.refuse .badArg) ?_,
    fun s i => ⟨⟨rfl, s.held_raiseFenceFailed i⟩, ⟨rfl, s.held_raiseSpent i⟩, rfl, rfl⟩,
    fun s i h => ⟨rfl, fun j => get_put _ _ _ _⟩, fun a n m => a.held_remove n m,
    fun a n i => a.sessionLapsed_remove n i,
    fun a => ⟨rfl, fun i => rfl, fun i => rfl, fun i => Option.isSome_iff_exists⟩⟩
  · intro start shown
    refine ⟨fun hs => exec_readAlerts hnext hlen (a := s.refuse .badArg) ?_, fun hs =>
      exec_readAlerts hnext hlen (a := ⟨s, .ok, [natByte s.alerts.total, natByte shown.length] ++
        shown.flatten⟩) ?_⟩
    · simp only [readAlerts]
      rw [if_pos hs]
    · simp only [readAlerts]
      rw [if_neg (not_lt.2 hs)]
      rfl
  · cases n <;> exact hn
  · simp only [ackAlert, decodeAlert_bad hbad]

end Sys2Proof.Machine
end

section
/-! SUPPORT. What every block stands at after a cold reset and after a warm one. -/

namespace Sys2Proof.Machine

theorem Alerts.total_empty : Alerts.empty.total = 0 := by decide +kernel

/-! ### The cold reset (R173) -/

theorem State.lease_coldReset (s : State) (low adr : Bool) (l : LeaseSlot) :
    (s.coldReset low adr).lease l = { issue := 0, record := none } := Vector.get_replicate _ _ l

theorem State.sessionCell_coldReset (s : State) (low adr : Bool) (i : SessSlot) :
    (s.coldReset low adr).sessionCell i = { tag := 0, session := none } := Vector.get_replicate _ _ i

theorem State.port_coldReset (s : State) (low adr : Bool) (p : PortIx) :
    (s.coldReset low adr).port p = (s.port p).coldReset := Vector.get_map _ _ p

/-- No line is enabled, and a line that is not enabled is at its inactive level, which is low. -/
theorem State.lineHigh_coldReset (s : State) (low adr : Bool) (n : LineNo) :
    (s.coldReset low adr).lines.get n = { polarity := .activeHigh, enabled := false } ∧
      (s.coldReset low adr).lineHigh n = false := by
  have hline : (s.coldReset low adr).lines.get n = { polarity := .activeHigh, enabled := false } :=
    Vector.get_replicate _ _ n
  exact ⟨hline, by rw [State.lineHigh, State.lineActive, hline]; rfl⟩

/-- No session is left that could have a notice for a port. -/
theorem State.noticeLevel_coldReset (s : State) (low adr : Bool) (p : PortIx) :
    (s.coldReset low adr).noticeLevel p = false := by
  refine List.any_eq_false.2 fun c hc => ?_
  have hcell : c = { tag := 0, session := none } := by
    simpa [State.coldReset, State.reset] using hc
  rw [hcell]
  exact Bool.false_ne_true

theorem State.coldValues_coldReset (s : State) (low adr : Bool) :
    (s.coldReset low adr).coldValues adr := by
  have hlevel := s.noticeLevel_coldReset low adr
  refine ⟨s.entry_coldReset low adr, s.lease_coldReset low adr, s.sessionCell_coldReset low adr, rfl, rfl,
    fun n => Vector.get_replicate _ _ n, ⟨rfl, rfl, rfl, rfl⟩, s.lineHigh_coldReset low adr,
    fun p => ⟨Vector.get_replicate _ _ p, hlevel p⟩, fun p => by rw [State.ntfHigh, hlevel]; rfl,
    ⟨Alerts.total_empty, decide_eq_true Alerts.total_empty⟩, fun p => ?_, rfl, rfl, rfl⟩
  rw [s.port_coldReset]
  refine ⟨rfl, rfl, rfl, fun u hu => ?_⟩
  obtain ⟨v, -, rfl⟩ := Option.map_eq_some_iff.1 hu
  rfl

theorem State.transaction_coldReset (s : State) (low adr : Bool) (p : PortIx) :
    ((s.coldReset low adr).port p).transaction = none ↔ (s.port p).transaction = none := by
  rw [s.port_coldReset]
  exact Option.map_eq_none_iff

theorem State.coldReset_reset : State.reset.coldReset false false = State.reset := by
  simp only [State.coldReset, State.reset, Vector.map_replicate]
  rfl

theorem State.misoDriven_iff (s : State) (p : AgentPort) : s.misoDriven p = true ↔
    s.resetLow = false ∧ (s.port (agentIx p)).transaction ≠ none := by
  rw [State.misoDriven, Bool.and_eq_true, Bool.not_eq_true', ← Option.isSome_iff_ne_none]
  rfl

/-- Settles O3: the values of each block, which both ends of the RESETN pulse leave, and which the initial
state has. -/
theorem coldResetTakesEveryBlockToItsValues : Obligations.ColdResetTakesEveryBlockToItsValues := by
  refine ⟨fun s adr => ⟨s.coldReset false adr, rfl, s.coldValues_coldReset _ _, rfl,
      s.transaction_coldReset _ _⟩,
    fun s => ⟨s.coldReset true s.addressStrap, rfl, s.coldValues_coldReset _ _, rfl, fun p => rfl,
      s.transaction_coldReset _ _⟩, State.misoDriven_iff, ?_, rfl⟩
  rw [← State.coldReset_reset]
  exact State.coldValues_coldReset _ _ _

/-! ### The laws at reset -/

theorem State.entry_reset (i : DirSlot) : State.reset.entry i = none := Vector.get_replicate _ _ i

theorem State.lease_reset (l : LeaseSlot) : State.reset.lease l = { issue := 0, record := none } :=
  Vector.get_replicate _ _ l

theorem State.sessionCell_reset (i : SessSlot) :
    State.reset.sessionCell i = { tag := 0, session := none } := Vector.get_replicate _ _ i

theorem State.record_reset (l : LeaseSlot) : State.reset.record l = none :=
  congrArg LeaseCell.record (State.lease_reset l)

theorem State.session_reset (i : SessSlot) : State.reset.session i = none :=
  congrArg SessionCell.session (State.sessionCell_reset i)

theorem State.ownershipLaws_reset : State.reset.ownershipLaws :=
  ⟨fun l r hr => by simp [State.record_reset] at hr, fun i x hx => by simp [State.session_reset] at hx⟩

theorem State.markLaws_reset : State.reset.markLaws := by
  refine ⟨fun l m hm => ?_, fun i m hm => ?_⟩
  · simp [State.lease_reset, LeaseCell.marks] at hm
  · simp [State.sessionCell_reset, SessionCell.marks] at hm

/-- The queue is empty, no entry is FENCING, and the bus is idle with nothing to start. -/
theorem State.fenceLaws_reset : State.reset.fenceLaws := by
  refine ⟨List.nodup_nil, fun i => ?_, fun j hj => absurd hj List.not_mem_nil,
    fun j hj => absurd hj List.not_mem_nil, rfl, rfl, rfl⟩
  simp [State.entry_reset, show State.reset.fenceQueue = [] from rfl]

/-- Settles O59: each law holds of tables in which every slot is vacant. -/
theorem lawsHoldAtReset : Obligations.LawsHoldAtReset :=
  ⟨State.directoryLaws_of_vacant State.entry_reset, State.ownershipLaws_reset, State.markLaws_reset,
    State.recordLaws_of_no_record State.record_reset fun i e he => by simp [State.entry_reset] at he,
    State.fenceLaws_reset⟩

/-! ### The warm reset (R171) -/

theorem State.lease_warmReset (s : State) (l : LeaseSlot) :
    s.warmReset.lease l = { s.lease l with record := none } := Vector.get_map _ _ l

theorem State.sessionCell_warmReset (s : State) (i : SessSlot) :
    s.warmReset.sessionCell i = { s.sessionCell i with session := none } := Vector.get_map _ _ i

theorem State.port_warmReset (s : State) (p : PortIx) :
    s.warmReset.port p = { s.port p with state := .idle, rejected := false, resetSeen := true } :=
  Vector.get_map _ _ p

theorem State.profileOf_eq_some {s : State} {e : Entry} {p : Profile} : s.profileOf e = some p ↔
    ∃ n, e.profile = some n ∧ s.profiles.get n = some p := by
  rw [State.profileOf, Option.bind_eq_some_iff]

theorem State.settlesFencing_iff {s : State} {e : Entry} : s.settlesFencing e = true ↔
    (e.state = .heldExclusive ∨ e.state = .fencing ∨ e.state = .fenceFailed) ∧
      ∃ n p, e.profile = some n ∧ s.profiles.get n = some p := by
  rw [State.settlesFencing, Bool.and_eq_true, Option.isSome_iff_exists, and_comm]
  simp only [State.profileOf_eq_some, Bool.or_eq_true, decide_eq_true_iff, or_assoc]
  exact and_congr_right' exists_comm

/-- The state in which a warm reset leaves an entry (R21). -/
def State.settledState (s : State) (e : Entry) : EntryState :=
  if s.settlesFencing e then .fencing else .free

theorem State.settled_eq (s : State) (e : Entry) : s.settled e =
    { e with
      state := s.settledState e
      generation := if e.generation = 0xFFFFFFFF then e.generation else e.generation + 1
      current := e.staged.getD e.current
      staged := none
      holders := 0
      exclusiveHolder := none
      queue := [] } := by
  unfold State.settled State.settledState
  cases s.settlesFencing e <;> rfl

/-- The job that a slot adds to the rebuilt queue. -/
def State.rebuiltJob (s : State) (i : DirSlot) : Option FenceJob :=
  (s.entry i).bind fun e => if e.state = .fencing then (s.profileOf e).map fun p => freshJob i e p else none

theorem State.rebuiltQueue_eq (s : State) :
    s.rebuiltQueue = (List.finRange 64).filterMap s.rebuiltJob := rfl

theorem State.rebuiltJob_eq_some {s : State} {i : DirSlot} {j : FenceJob} : s.rebuiltJob i = some j ↔
    ∃ e n p, s.entry i = some e ∧ e.state = .fencing ∧ e.profile = some n ∧
      s.profiles.get n = some p ∧ j = freshJob i e p := by
  rw [State.rebuiltJob, Option.bind_eq_some_iff]
  simp only [Option.ite_none_right_eq_some, Option.map_eq_some_iff, State.profileOf_eq_some]
  constructor
  · rintro ⟨e, he, hst, p, ⟨n, hn, hp⟩, rfl⟩
    exact ⟨e, n, p, he, hst, hn, hp, rfl⟩
  · rintro ⟨e, n, p, he, hst, hn, hp, rfl⟩
    exact ⟨e, he, hst, p, ⟨n, hn, hp⟩, rfl⟩

theorem State.resource_rebuiltJob {s : State} {i : DirSlot} {j : FenceJob}
    (h : s.rebuiltJob i = some j) : j.resource = i := by
  obtain ⟨e, n, p, -, -, -, -, rfl⟩ := State.rebuiltJob_eq_some.1 h
  rfl

/-- One job for each FENCING entry, with the generation and the profile that it has (R121). -/
theorem State.mem_rebuiltQueue {s : State} {j : FenceJob} : j ∈ s.rebuiltQueue ↔
    ∃ e n p, s.entry j.resource = some e ∧ e.state = .fencing ∧ e.profile = some n ∧
      s.profiles.get n = some p ∧ j = freshJob j.resource e p := by
  rw [State.rebuiltQueue_eq, List.mem_filterMap, ← State.rebuiltJob_eq_some]
  refine ⟨fun ⟨i, _, hj⟩ => ?_, fun hj => ⟨j.resource, List.mem_finRange _, hj⟩⟩
  rwa [State.resource_rebuiltJob hj]

theorem State.rebuiltQueue_ascending (s : State) :
    (s.rebuiltQueue.map FenceJob.resource).Pairwise (· < ·) := by
  rw [State.rebuiltQueue_eq, List.pairwise_map, List.pairwise_filterMap]
  refine (List.sortedLT_finRange 64).pairwise.imp fun {a b} hab j hj k hk => ?_
  rwa [State.resource_rebuiltJob hj, State.resource_rebuiltJob hk]

theorem State.mem_fenceQueue_warmReset {s : State} {j : FenceJob} : j ∈ s.warmReset.fenceQueue ↔
    ∃ e n p, s.warmReset.entry j.resource = some e ∧ e.state = .fencing ∧ e.profile = some n ∧
      s.profiles.get n = some p ∧ j = freshJob j.resource e p :=
  State.mem_rebuiltQueue (s := { s.warmReset with fenceQueue := s.fenceQueue })

theorem Bus.abandon_eq (b : Bus) : b.abandon = (match b.state, b.attempt with
    | .transfer, some a => { b with attempt := some { a with abandoned := true } }
    | _, _ => b) := by
  obtain ⟨state, speed, runSpeed, attempt, driven⟩ := b
  cases state <;> cases attempt <;> rfl

/-- Settles O52: what the reset makes of each block, with the fence queue read off the entries as
settled. -/
theorem warmResetSettlesEveryBlock : Obligations.WarmResetSettlesEveryBlock := by
  intro s lines hnext
  refine ⟨s.warmReset, congrArg _ (State.management_answers hnext rfl rfl), fun i hi => ?_,
    fun i e he => ?_, s.lease_warmReset, s.sessionCell_warmReset, State.rebuiltQueue_ascending _,
    fun j => State.mem_fenceQueue_warmReset, ?_, Alerts.total_empty, s.port_warmReset, rfl, rfl,
    rfl, rfl, rfl, rfl, rfl⟩
  · rw [State.entry_warmReset, hi, Option.map_none]
  · refine ⟨s.settledState e, fun hf => if_pos (State.settlesFencing_iff.2 hf),
      fun hf => if_neg fun hs => hf (State.settlesFencing_iff.1 hs), ?_⟩
    rw [State.entry_warmReset, he, Option.map_some, State.settled_eq]
  · exact s.bus.abandon_eq.trans (by rfl)

end Sys2Proof.Machine
end

section
/-! SUPPORT. Who owns which record and how far ahead the marks lie: what every operation keeps of both, in
a form that lets one session be apart while its lapse tears its records down. -/

namespace Sys2Proof.Machine

/-! ### Marks in the window (R72) -/

/-- A mark, if there is one, lies at most 65535 ticks ahead of the count. -/
def withinWindow (count : Word) (m : Option Word) : Prop := ∀ w, m = some w → (w - count).toNat ≤ 65535

@[simp] theorem withinWindow_none (count : Word) : withinWindow count none := fun _ h => nomatch h

@[simp] theorem withinWindow_markAt (count : Word) (offset : Half) :
    withinWindow count (some (markAt count offset)) := by
  rintro w ⟨⟩
  rw [markAt, add_sub_cancel_left, BitVec.toNat_setWidth]
  omega

@[simp] theorem withinWindow_warnMark (count : Word) (term lead : Half) :
    withinWindow count (warnMark count term lead) := by
  unfold warnMark
  split
  · exact withinWindow_none count
  · exact withinWindow_markAt count _

@[simp] theorem withinWindow_waitMark (count : Word) (limit : Half) :
    withinWindow count (waitMark count limit) := by
  unfold waitMark
  split
  · exact withinWindow_none count
  · exact withinWindow_markAt count _

/-- The marks of a record lie in the window. -/
def LeaseRecord.timely (r : LeaseRecord) (count : Word) : Prop :=
  withinWindow count r.expiry ∧ withinWindow count r.warn ∧ withinWindow count r.wait

/-- The marks of a session lie in the window. -/
def Session.timely (x : Session) (count : Word) : Prop :=
  withinWindow count x.expiry ∧ withinWindow count x.warn

theorem State.markLaws_iff (s : State) : s.markLaws ↔
    (∀ l r, s.record l = some r → r.timely s.clock.count) ∧
      ∀ i x, s.session i = some x → x.timely s.clock.count := by
  have hl : ∀ l, (∀ m, some m ∈ (s.lease l).marks → (m - s.clock.count).toNat ≤ 65535) ↔
      ∀ r, s.record l = some r → r.timely s.clock.count := by
    intro l
    unfold LeaseCell.marks State.record
    cases hr : (s.lease l).record with
    | none => simp
    | some r => simp [LeaseRecord.timely, withinWindow, or_imp, forall_and, eq_comm]
  have hs : ∀ i, (∀ m, some m ∈ (s.sessionCell i).marks → (m - s.clock.count).toNat ≤ 65535) ↔
      ∀ x, s.session i = some x → x.timely s.clock.count := by
    intro i
    unfold SessionCell.marks State.session
    cases hx : (s.sessionCell i).session with
    | none => simp
    | some x => simp [Session.timely, withinWindow, or_imp, forall_and, eq_comm]
  exact and_congr (forall_congr' hl) (forall_congr' hs)

/-! ### The laws with one session apart (R25, R84, R92) -/

/-- The session that owns the record of lease slot `l`. -/
def State.owner (s : State) (l : LeaseSlot) : Option SessSlot := (s.record l).map LeaseRecord.session

theorem State.owner_eq_some {s : State} {l : LeaseSlot} {i : SessSlot} :
    s.owner l = some i ↔ ∃ r, s.record l = some r ∧ r.session = i := Option.map_eq_some_iff

theorem State.owner_setRecord (s : State) (l : LeaseSlot) (q : Option LeaseRecord) (k : LeaseSlot) :
    (s.setRecord l q).owner k = if k = l then q.map LeaseRecord.session else s.owner k := by
  unfold State.owner
  rw [State.record_setRecord]
  split <;> rfl

/-- What the laws say of the session slot `i`: the records that it owns are those in the list of its
session, which is alive then and within its quota, and its marks lie in the window. -/
structure State.OwnedAt (s : State) (i : SessSlot) : Prop where
  listed : ∀ l, s.owner l = some i → ∃ x, s.session i = some x ∧ x.state ≠ .lapsed ∧ l ∈ x.records
  nodup : ∀ x, s.session i = some x → x.records.Nodup
  quota : ∀ x, s.session i = some x → x.records.length ≤ x.quota
  owns : ∀ x, s.session i = some x → ∀ l, l ∈ x.records → s.owner l = some i
  timely : ∀ x, s.session i = some x → x.timely s.clock.count

/-- The laws of ownership and the window of marks, except that the session of slot `apart`, whose lapse
has removed its marks, need not have the shape of its state. -/
structure State.Owned (s : State) (apart : Option SessSlot) : Prop where
  slots : ∀ i, s.OwnedAt i
  shaped : ∀ i x, s.session i = some x → some i ≠ apart → x.shaped
  timely : ∀ l r, s.record l = some r → r.timely s.clock.count

theorem State.owned_iff (s : State) : s.Owned none ↔ s.ownershipLaws ∧ s.markLaws := by
  rw [State.markLaws_iff]
  constructor
  · rintro ⟨hat, hsh, hr⟩
    exact ⟨⟨fun l r h => (hat _).listed l (State.owner_eq_some.2 ⟨r, h, rfl⟩), fun i x h =>
      ⟨hsh i x h nofun, (hat i).nodup x h, (hat i).quota x h, fun l k =>
        State.owner_eq_some.1 ((hat i).owns x h l k)⟩⟩, hr, fun i => (hat i).timely⟩
  · rintro ⟨⟨hl, hs⟩, hr, hx⟩
    refine ⟨fun i => ⟨fun l h => ?_, fun x h => ?_, fun x h => ?_, fun x h l k => ?_, hx i⟩,
      fun i x h _ => ?_, hr⟩
    · obtain ⟨r, hr, rfl⟩ := State.owner_eq_some.1 h
      exact hl l r hr
    all_goals obtain ⟨hshaped, hnodup, hquota, howns⟩ := hs i x h
    · exact hnodup
    · exact hquota
    · exact State.owner_eq_some.2 (howns l k)
    · exact hshaped

theorem State.OwnedAt.of_same {s t : State} {i : SessSlot} (h : s.OwnedAt i)
    (hx : t.session i = s.session i) (ho : ∀ l, t.owner l = some i ↔ s.owner l = some i)
    (hc : t.clock.count = s.clock.count) : t.OwnedAt i where
  listed l hl := hx ▸ h.listed l ((ho l).1 hl)
  nodup x k := h.nodup x (hx ▸ k)
  quota x k := h.quota x (hx ▸ k)
  owns x k l hl := (ho l).2 (h.owns x (hx ▸ k) l hl)
  timely x k := hc.symm ▸ h.timely x (hx ▸ k)

/-- A change at session slot `i` alone, after which the session of slot `b` is apart. -/
theorem State.Owned.update {s t : State} {a b : Option SessSlot} (h : s.Owned a) {i : SessSlot}
    (hx : ∀ j, j ≠ i → t.session j = s.session j)
    (ho : ∀ j, j ≠ i → ∀ l, t.owner l = some j ↔ s.owner l = some j)
    (hc : t.clock.count = s.clock.count) (hr : ∀ l r, t.record l = some r → r.timely s.clock.count)
    (hab : ∀ j, j ≠ i → some j ≠ b → some j ≠ a) (hi : t.OwnedAt i)
    (hs : ∀ x, t.session i = some x → some i ≠ b → x.shaped) : t.Owned b where
  slots j := by
    by_cases hj : j = i
    · exact hj ▸ hi
    · exact (h.slots j).of_same (hx j hj) (ho j hj) hc
  shaped j x hxj hjb := by
    by_cases hj : j = i
    · subst hj
      exact hs x hxj hjb
    · exact h.shaped j x (hx j hj ▸ hxj) (hab j hj hjb)
  timely l r hlr := hc.symm ▸ hr l r hlr

/-! ### Operations that keep owners and sessions -/

/-- `t` has the sessions, the count and the owners of `s`, and a record whose marks lay in the window has
them there still. -/
structure State.Keeps (s t : State) : Prop where
  sessions : t.sessions = s.sessions
  count : t.clock.count = s.clock.count
  owner : ∀ l, t.owner l = s.owner l
  timely : ∀ l, (∀ r, s.record l = some r → r.timely s.clock.count) →
    ∀ q, t.record l = some q → q.timely s.clock.count

theorem State.Keeps.session {s t : State} (h : s.Keeps t) (i : SessSlot) : t.session i = s.session i :=
  congrArg (fun v : Vector SessionCell 16 => (v.get i).session) h.sessions

theorem State.Keeps.trans {s t u : State} (h : s.Keeps t) (k : t.Keeps u) : s.Keeps u where
  sessions := k.sessions.trans h.sessions
  count := k.count.trans h.count
  owner l := (k.owner l).trans (h.owner l)
  timely l hs := h.count ▸ k.timely l (h.count.symm ▸ h.timely l hs)

theorem State.keeps_of_parts {s t : State} (hl : t.leases = s.leases) (hx : t.sessions = s.sessions)
    (hc : t.clock.count = s.clock.count) : s.Keeps t := by
  have hr : ∀ l, t.record l = s.record l := fun l =>
    congrArg (fun v : Vector LeaseCell 128 => (v.get l).record) hl
  exact ⟨hx, hc, fun l => congrArg (Option.map LeaseRecord.session) (hr l), fun l hs q hq =>
    hs q ((hr l).symm.trans hq)⟩

theorem State.Keeps.refl (s : State) : s.Keeps s := State.keeps_of_parts rfl rfl rfl

theorem State.Owned.keeps {s t : State} {a : Option SessSlot} (h : s.Owned a) (k : s.Keeps t) :
    t.Owned a where
  slots i := (h.slots i).of_same (k.session i) (fun l => by rw [k.owner]) k.count
  shaped i x hx := h.shaped i x (k.session i ▸ hx)
  timely l r hr := k.count.symm ▸ k.timely l (h.timely l) r hr

theorem State.keeps_setRecord {s : State} {l : LeaseSlot} {r q : LeaseRecord}
    (hr : s.record l = some r) (hs : q.session = r.session)
    (hq : r.timely s.clock.count → q.timely s.clock.count) : s.Keeps (s.setRecord l (some q)) where
  sessions := rfl
  count := rfl
  owner k := by
    rw [State.owner_setRecord]
    split
    · next hk => subst hk; simp [State.owner, hr, hs]
    · rfl
  timely k ht p hp := by
    rw [State.record_setRecord] at hp
    split at hp
    · next hk => subst hk; cases hp; exact hq (ht r hr)
    · exact ht p hp

theorem State.keeps_setEntry (s : State) (i : DirSlot) (e : Option Entry) : s.Keeps (s.setEntry i e) :=
  State.keeps_of_parts rfl rfl rfl

theorem State.keeps_setBus (s : State) (b : Bus) : s.Keeps { s with bus := b } :=
  State.keeps_of_parts rfl rfl rfl

theorem State.keeps_modifyEntry (s : State) (i : DirSlot) (f : Entry → Entry) :
    s.Keeps (s.modifyEntry i f) := by
  unfold State.modifyEntry
  split
  · exact .refl s
  · exact s.keeps_setEntry i _

theorem State.keeps_endRecord (s : State) (l : LeaseSlot) (c : EndCause) : s.Keeps (s.endRecord l c) := by
  unfold State.endRecord
  split
  · exact .refl s
  · next r hr =>
    exact State.keeps_setRecord hr rfl fun _ => ⟨withinWindow_none _, withinWindow_none _, withinWindow_none _⟩

theorem State.keeps_reportSpent (s : State) (i : DirSlot) : s.Keeps (s.reportSpent i) := by
  unfold State.reportSpent
  split
  · exact .refl s
  · split
    · exact .refl s
    · exact State.keeps_of_parts rfl rfl rfl

theorem LeaseRecord.timely_granted (r : LeaseRecord) (e : Entry) (count : Word) (n : Option Notice) :
    (r.granted e count n).timely count :=
  ⟨withinWindow_markAt _ _, withinWindow_warnMark _ _ _, withinWindow_none _⟩

theorem State.keeps_grantHead {s : State} {l : LeaseSlot} {r : LeaseRecord} (hr : s.record l = some r)
    (i : DirSlot) (e : Entry) : s.Keeps (s.grantHead i e l r) :=
  (s.keeps_setEntry i _).trans (State.keeps_setRecord hr rfl fun _ => r.timely_granted _ _ _)

theorem State.keeps_endSpentHead (s : State) (i : DirSlot) (e : Entry) (l : LeaseSlot) :
    s.Keeps (s.endSpentHead i e l) :=
  ((s.keeps_setEntry i _).trans (State.keeps_endRecord _ l _)).trans (State.keeps_reportSpent _ i)

theorem grantSteps_keeps (i : DirSlot) (q : List LeaseSlot) (s : State) : s.Keeps (grantSteps i q s) := by
  induction q generalizing s with
  | nil => exact .refl s
  | cons l rest ih =>
    rw [grantSteps]
    split
    · exact .refl s
    · split
      · split
        · exact (s.keeps_setEntry i _).trans (ih _)
        · next r hr =>
          split
          · exact (State.keeps_grantHead hr i _).trans (ih _)
          · split
            · exact (s.keeps_endSpentHead i _ l).trans (ih _)
            · split
              · exact State.keeps_grantHead hr i _
              · exact .refl s
      · exact .refl s

theorem State.keeps_grantCheck (s : State) (i : DirSlot) : s.Keeps (s.grantCheck i) := by
  unfold State.grantCheck
  split
  · exact .refl s
  · exact grantSteps_keeps i _ s

/-- An entry written, and the grant check on it. -/
theorem State.keeps_setEntry_grantCheck (s : State) (i : DirSlot) (e : Option Entry) :
    s.Keeps ((s.setEntry i e).grantCheck i) :=
  (s.keeps_setEntry i e).trans (State.keeps_grantCheck _ i)

theorem State.keeps_dropHolder (s : State) (i : DirSlot) (l : LeaseSlot) : s.Keeps (s.dropHolder i l) := by
  unfold State.dropHolder
  split
  · exact .refl s
  · split
    · exact s.keeps_setEntry_grantCheck i _
    · exact s.keeps_setEntry i _

theorem State.keeps_leaveQueue (s : State) (i : DirSlot) (l : LeaseSlot) : s.Keeps (s.leaveQueue i l) :=
  (s.keeps_modifyEntry i _).trans (State.keeps_grantCheck _ i)

theorem State.keeps_failHead (s : State) : s.Keeps s.failHead :=
  State.keeps_of_parts s.failHead_leases s.failHead_sessions
    (congrArg (fun v => Clock.count v.1) s.rest_failHead)

theorem State.keeps_startAttempt (s : State) (lines : BusLines) : s.Keeps (s.startAttempt lines) :=
  State.keeps_of_parts (s.startAttempt_leases lines) (s.startAttempt_sessions lines)
    (congrArg (fun v => Clock.count v.1) (s.rest_startAttempt lines))

theorem State.keeps_appendJob (s : State) (j : FenceJob) (lines : BusLines) :
    s.Keeps (s.appendJob j lines) :=
  .trans (t := { s with fenceQueue := s.fenceQueue ++ [j] }) (State.keeps_of_parts rfl rfl rfl)
    (State.keeps_startAttempt _ lines)

theorem State.keeps_revokeExclusive (s : State) (i : DirSlot) (lines : BusLines) :
    s.Keeps (s.revokeExclusive i lines) := by
  unfold State.revokeExclusive
  split
  · exact .refl s
  · dsimp only
    split
    · exact (s.keeps_setEntry i _).trans (State.keeps_appendJob _ _ lines)
    · exact s.keeps_setEntry_grantCheck i _

theorem State.keeps_revokeEnding (s : State) (l : LeaseSlot) (c : EndCause) (lines : BusLines) :
    s.Keeps (s.revokeEnding l c lines) := by
  unfold State.revokeEnding
  split
  · exact .refl s
  · refine (s.keeps_endRecord l c).trans ?_
    unfold State.revokeAt
    split
    · exact State.keeps_dropHolder _ _ l
    · exact State.keeps_revokeExclusive _ _ lines

theorem State.keeps_settleHead (s : State) : s.Keeps s.settleHead := by
  unfold State.settleHead
  split
  · exact .refl s
  · next j rest _ =>
    have hrest : s.Keeps { s with fenceQueue := rest } := State.keeps_of_parts rfl rfl rfl
    dsimp only
    split
    · exact hrest
    · split
      · exact hrest.trans (State.keeps_setEntry_grantCheck _ _ _)
      · exact hrest

/-! ### Sessions rewritten -/

/-- Session `x` of slot `i` replaced by `y`, which has its records and is alive if `x` was. -/
theorem State.Owned.rewritten {s : State} (h : s.Owned none) {i : SessSlot} {x : Session}
    (hx : s.session i = some x) (y : Session) (hr : y.records = x.records) (hq : y.quota = x.quota)
    (hl : x.state ≠ .lapsed → y.state ≠ .lapsed) (hm : y.timely s.clock.count) {a : Option SessSlot}
    (hs : some i ≠ a → y.shaped) : (s.setSession i (some y)).Owned a := by
  have hy : (s.setSession i (some y)).session i = some y := s.session_setSession_self i _
  refine h.update (i := i) (fun j hj => ?_) (fun _ _ _ => Iff.rfl) rfl h.timely (fun _ _ _ => nofun)
    ⟨fun l ho => ?_, fun z hz => ?_, fun z hz => ?_, fun z hz l hlz => ?_, fun z hz => ?_⟩
    fun z hz hb => ?_
  · rw [State.session_setSession, if_neg hj]
  · obtain ⟨z, hz, hzl, hlz⟩ := (h.slots i).listed l ho
    obtain rfl : x = z := Option.some.inj (hx.symm.trans hz)
    exact ⟨y, hy, hl hzl, hr.symm ▸ hlz⟩
  all_goals obtain rfl : y = z := Option.some.inj (hy.symm.trans hz)
  · exact hr ▸ (h.slots i).nodup x hx
  · exact hr ▸ hq ▸ (h.slots i).quota x hx
  · exact (h.slots i).owns x hx l (hr ▸ hlz)
  · exact hm
  · exact hs hb

/-- The cell of a session that owns no record, replaced by one that lists none: the session opened, gone,
or lapsed. -/
theorem State.Owned.replaced {s : State} {a : Option SessSlot} (h : s.Owned a) {i : SessSlot}
    (ha : ∀ j, some j = a → j = i) (hno : ∀ l, s.owner l ≠ some i) {c : SessionCell}
    (hc : ∀ y, c.session = some y → y.shaped ∧ y.records = [] ∧ y.timely s.clock.count) :
    (s.setSessionCell i c).Owned none := by
  have hy : (s.setSessionCell i c).session i = c.session := by
    rw [State.session, State.sessionCell_setSessionCell, if_pos rfl]
  refine h.update (i := i) (fun j hj => ?_) (fun _ _ _ => Iff.rfl) rfl h.timely
    (fun j hj _ hja => hj (ha j hja))
    ⟨fun l ho => absurd ho (hno l), fun z hz => ?_, fun z hz => ?_, fun z hz l hlz => ?_, fun z hz => ?_⟩
    fun z hz _ => ?_
  · rw [State.session, State.sessionCell_setSessionCell, if_neg hj]
    rfl
  all_goals obtain ⟨hshaped, hnil, htimely⟩ := hc z (hy ▸ hz)
  · exact hnil ▸ List.nodup_nil
  · exact hnil ▸ Nat.zero_le _
  · exact absurd (hnil ▸ hlz) List.not_mem_nil
  · exact htimely
  · exact hshaped

theorem State.Owned.vacated {s : State} {a : Option SessSlot} (h : s.Owned a) {i : SessSlot}
    (ha : ∀ j, some j = a → j = i) (hno : ∀ l, s.owner l ≠ some i) : (s.setSession i none).Owned none :=
  h.replaced ha hno fun _ hy => nomatch hy

/-- A lapsed session owns no record. -/
theorem State.Owned.no_owner {s : State} {a : Option SessSlot} (h : s.Owned a) {i : SessSlot} {x : Session}
    (hx : s.session i = some x) (hl : x.state = .lapsed) (l : LeaseSlot) : s.owner l ≠ some i := by
  intro hi
  obtain ⟨y, hy, hyl, -⟩ := (h.slots i).listed l hi
  exact hyl (Option.some.inj (hx.symm.trans hy) ▸ hl)

/-! ### Records freed -/

/-- `t` is lawful as `s` is, and the record of lease slot `l` is gone from it. -/
structure State.FreesOne (s t : State) (l : LeaseSlot) (a : Option SessSlot) : Prop where
  owned : t.Owned a
  owner : ∀ k, t.owner k = if k = l then none else s.owner k

theorem State.FreesOne.keeps {s t u : State} {l : LeaseSlot} {a : Option SessSlot}
    (h : s.FreesOne t l a) (k : t.Keeps u) : s.FreesOne u l a :=
  ⟨h.owned.keeps k, fun j => (k.owner j).trans (h.owner j)⟩

theorem State.Owned.freesNone {s : State} {a : Option SessSlot} (h : s.Owned a) {l : LeaseSlot}
    (hl : s.record l = none) : s.FreesOne s l a := by
  refine ⟨h, fun k => ?_⟩
  split
  · next hk => subst hk; simp [State.owner, hl]
  · rfl

theorem Session.shaped_filter {x : Session} (h : x.shaped) (p : LeaseSlot → Bool) :
    ({ x with records := x.records.filter p } : Session).shaped := by
  unfold Session.shaped at h ⊢
  cases hs : x.state with
  | opened => simpa [hs] using h
  | warned => simpa [hs] using h
  | lapsed =>
    simp only [hs] at h ⊢
    obtain ⟨he, hw, hr, hn, hc⟩ := h
    exact ⟨he, hw, by rw [hr]; rfl, hn, hc⟩

theorem State.vacateRecord_eq {s : State} {l : LeaseSlot} {r : LeaseRecord} {x : Session}
    (hr : s.record l = some r) (hx : s.session r.session = some x) :
    s.vacateRecord l = (s.setSession r.session (some { x with records := x.records.filter (· ≠ l) })).setRecord
      l none := by
  simp only [State.vacateRecord, hr, State.modifySession, hx]

theorem State.Owned.vacateRecord {s : State} {a : Option SessSlot} (h : s.Owned a) (l : LeaseSlot) :
    s.FreesOne (s.vacateRecord l) l a := by
  cases hr : s.record l with
  | none =>
    have hs : s.vacateRecord l = s := by simp only [State.vacateRecord, hr]
    rw [hs]
    exact h.freesNone hr
  | some r =>
    obtain ⟨x, hx, hxl, hlx⟩ := (h.slots _).listed l (State.owner_eq_some.2 ⟨r, hr, rfl⟩)
    rw [State.vacateRecord_eq hr hx]
    have hy : ((s.setSession r.session (some { x with records := x.records.filter (· ≠ l) })).setRecord
        l none).session r.session = some { x with records := x.records.filter (· ≠ l) } :=
      s.session_setSession_self _ _
    have howner : ∀ k, ((s.setSession r.session (some { x with
        records := x.records.filter (· ≠ l) })).setRecord l none).owner k =
          if k = l then none else s.owner k := State.owner_setRecord _ l none
    have hl : s.owner l = some r.session := State.owner_eq_some.2 ⟨r, hr, rfl⟩
    refine ⟨h.update (i := r.session) (fun j hj => ?_) (fun j hj k => ?_) rfl (fun k q hq => ?_)
      (fun _ _ => id) ⟨fun k ho => ?_, fun z hz => ?_, fun z hz => ?_, fun z hz k hkz => ?_,
        fun z hz => ?_⟩ fun z hz ha => ?_, howner⟩
    · rw [State.session_setRecord, State.session_setSession, if_neg hj]
    · rw [howner]
      split
      · next hk => simpa [hk, hl] using hj.symm
      · rfl
    · rw [State.record_setRecord] at hq
      split at hq
      · cases hq
      · exact h.timely k q hq
    · rw [howner] at ho
      split at ho
      · cases ho
      · next hk =>
        obtain ⟨z, hz, -, hkz⟩ := (h.slots _).listed k ho
        obtain rfl : x = z := Option.some.inj (hx.symm.trans hz)
        exact ⟨_, hy, hxl, List.mem_filter.2 ⟨hkz, by simpa using hk⟩⟩
    all_goals obtain rfl := Option.some.inj (hy.symm.trans hz)
    · exact ((h.slots _).nodup x hx).filter _
    · exact (List.length_filter_le _ _).trans ((h.slots _).quota x hx)
    · obtain ⟨hkx, hk⟩ := List.mem_filter.1 hkz
      rw [howner, if_neg (by simpa using hk)]
      exact (h.slots _).owns x hx k hkx
    · exact (h.slots _).timely x hx
    · exact Session.shaped_filter (h.shaped _ x hx ha) _

theorem State.Owned.freeRecord {s : State} {a : Option SessSlot} (h : s.Owned a) (l : LeaseSlot) :
    s.FreesOne (s.freeRecord l) l a := by
  unfold State.freeRecord
  split
  · next hr => exact h.freesNone hr
  · split
    · exact (h.vacateRecord l).keeps (State.keeps_leaveQueue _ _ l)
    · exact (h.vacateRecord l).keeps (State.keeps_dropHolder _ _ l)
    · exact (h.vacateRecord l).keeps (State.keeps_dropHolder _ _ l)
    · exact h.vacateRecord l

theorem State.Owned.teardownRecord {s : State} {a : Option SessSlot} (h : s.Owned a) (lines : BusLines)
    (l : LeaseSlot) : s.FreesOne (State.teardownRecord lines s l) l a := by
  unfold State.teardownRecord
  split
  · next hr => exact h.freesNone hr
  · split
    · exact (h.vacateRecord l).keeps (State.keeps_revokeExclusive _ _ lines)
    · exact h.freeRecord l

/-- A walk that frees one record at a time keeps the laws and frees the records of its list. -/
theorem State.Owned.walk {a : Option SessSlot} {f : State → LeaseSlot → State}
    (hf : ∀ (t : State) l, t.Owned a → t.FreesOne (f t l) l a) (ls : List LeaseSlot) {s : State}
    (h : s.Owned a) : (ls.foldl f s).Owned a ∧
      ∀ k, (ls.foldl f s).owner k = if k ∈ ls then none else s.owner k := by
  induction ls generalizing s with
  | nil => exact ⟨h, fun k => (if_neg List.not_mem_nil).symm⟩
  | cons l ls ih =>
    obtain ⟨howned, howner⟩ := ih (hf s l h).owned
    refine ⟨howned, fun k => ?_⟩
    rw [List.foldl_cons, howner, (hf s l h).owner]
    by_cases hk : k ∈ ls <;> by_cases hkl : k = l <;> simp [hk, hkl]

/-- After a walk over the records of session `i` no record is owned by it. -/
theorem State.Owned.no_owner_of_walk {s t : State} {a : Option SessSlot} (h : s.Owned a) {i : SessSlot}
    {x : Session} (hx : s.session i = some x)
    (ht : ∀ k, t.owner k = if k ∈ x.records then none else s.owner k) (l : LeaseSlot) :
    t.owner l ≠ some i := by
  rw [ht]
  split
  · exact nofun
  · next hl =>
    intro hi
    obtain ⟨y, hy, -, hly⟩ := (h.slots i).listed l hi
    exact hl (Option.some.inj (hx.symm.trans hy) ▸ hly)

/-- The lapse of a session, up to the session's own end: the rest is lawful, and it owns no record. -/
theorem State.Owned.lapse {s : State} (h : s.Owned none) {i : SessSlot} {x : Session}
    (hx : s.session i = some x) (c : LapseCause) (lines : BusLines) :
    (s.lapse i x c lines).Owned (some i) ∧ ∀ l, (s.lapse i x c lines).owner l ≠ some i := by
  have hd : s.dropSessionMarks i = s.setSession i (some { x with expiry := none, warn := none }) := by
    simp only [State.dropSessionMarks, State.modifySession, hx]
  have h1 : (s.dropSessionMarks i).Owned (some i) := by
    rw [hd]
    exact h.rewritten hx { x with expiry := none, warn := none } rfl rfl id
      ⟨withinWindow_none _, withinWindow_none _⟩ fun hi => absurd rfl hi
  obtain ⟨h2, howner⟩ := h1.walk (fun t l ht => ht.teardownRecord lines l) x.records
  have hx1 : (s.dropSessionMarks i).session i = some { x with expiry := none, warn := none } := by
    rw [hd, State.session_setSession_self]
  exact ⟨h2.keeps (State.keeps_of_parts rfl rfl rfl), h1.no_owner_of_walk hx1 howner⟩

/-! ### Requests taken into the lease table (R22, R25) -/

theorem State.Owned.recordCount {s : State} {a : Option SessSlot} (h : s.Owned a) {i : SessSlot}
    {x : Session} (hx : s.session i = some x) : s.recordCount x = x.records.length := by
  unfold State.recordCount
  rw [List.filter_eq_self.2]
  intro l hl
  obtain ⟨r, hr, -⟩ := State.owner_eq_some.1 ((h.slots i).owns x hx l hl)
  simp [hr]

theorem State.session_allocate {s : State} {l : LeaseSlot} {q : LeaseRecord} {x : Session}
    (hx : s.session q.session = some x) (j : SessSlot) : (s.allocate l q).session j =
      if j = q.session then some { x with records := x.records ++ [l] } else s.session j := by
  simp only [State.allocate, State.modifySession, State.session_setLease, hx, State.session_setSession]

theorem Session.shaped_records {x : Session} (h : x.shaped) (hl : x.state ≠ .lapsed)
    (ls : List LeaseSlot) : ({ x with records := ls } : Session).shaped := by
  unfold Session.shaped at h ⊢
  cases hs : x.state with
  | opened => simpa [hs] using h
  | warned => simpa [hs] using h
  | lapsed => exact absurd hs hl

theorem State.Owned.allocate {s : State} (h : s.Owned none) {l : LeaseSlot} {q : LeaseRecord}
    {x : Session} (hx : s.session q.session = some x) (hxl : x.state ≠ .lapsed)
    (hquota : s.recordCount x ≠ x.quota) (hl : s.record l = none) (hq : q.timely s.clock.count) :
    (s.allocate l q).Owned none := by
  have hcount : (s.allocate l q).clock.count = s.clock.count :=
    congrArg (fun v => Clock.count v.1) (s.rest_allocate l q)
  have hsession := State.session_allocate (l := l) hx
  have hy := hsession q.session
  rw [if_pos rfl] at hy
  have howner : ∀ k, (s.allocate l q).owner k = if k = l then some q.session else s.owner k := by
    intro k
    unfold State.owner
    rw [State.record_allocate]
    split <;> rfl
  have hno : ∀ j, s.owner l ≠ some j := by simp [State.owner, hl]
  refine h.update (i := q.session) (fun j hj => ?_) (fun j hj k => ?_) hcount (fun k r hr => ?_)
    (fun _ _ => id) ⟨fun k ho => ?_, fun z hz => ?_, fun z hz => ?_, fun z hz k hkz => ?_,
      fun z hz => ?_⟩ fun z hz ha => ?_
  · rw [hsession, if_neg hj]
  · rw [howner]
    split
    · next hk => simpa [hk, hno j] using hj.symm
    · rfl
  · rw [State.record_allocate] at hr
    split at hr
    · exact Option.some.inj hr ▸ hq
    · exact h.timely k r hr
  · rw [howner] at ho
    refine ⟨_, hy, hxl, List.mem_append.2 ?_⟩
    split at ho
    · next hk => exact .inr (List.mem_singleton.2 hk)
    · obtain ⟨z, hz, -, hkz⟩ := (h.slots _).listed k ho
      exact .inl (Option.some.inj (hx.symm.trans hz) ▸ hkz)
  all_goals obtain rfl := Option.some.inj (hy.symm.trans hz)
  · have hlx : l ∉ x.records := fun hlx => hno _ ((h.slots _).owns x hx l hlx)
    exact ((h.slots _).nodup x hx).append (List.nodup_singleton l) (by simpa using hlx)
  · rw [h.recordCount hx] at hquota
    have hle := (h.slots _).quota x hx
    simp only [List.length_append, List.length_singleton]
    omega
  · rw [howner]
    split
    · rfl
    · next hk => exact (h.slots _).owns x hx k (by simpa [hk] using hkz)
  · exact hcount.symm ▸ (h.slots _).timely x hx
  · exact Session.shaped_records (h.shaped _ x hx ha) hxl _

end Sys2Proof.Machine
end

section
/-! SUPPORT. Every command and event keeps the ownership of records and the window of marks. -/

namespace Sys2Proof.Machine

/-! ### Handles -/

/-- A session that passes step 4 of R37, for a command which that step refuses to a LAPSED one. -/
theorem State.alive_of_checkSession {s : State} {p : PortIx} {i : SessSlot} {tag : Half} {x : Session}
    (h : s.checkSession p false i tag = .ok x) : x.state ≠ .lapsed := by
  unfold State.checkSession at h
  split at h
  · cases h
  · split_ifs at h with _ _ hl
    cases h
    exact fun hx => hl ⟨hx, rfl⟩

theorem State.checkSession_of_checkHandle {s : State} {p : PortIx} {lapsedToo : Bool}
    {h : SessionHandle} {i : SessSlot} {x : Session} (hk : s.checkHandle p lapsedToo h = .ok (i, x)) :
    s.checkSession p lapsedToo i h.tag = .ok x := by
  unfold State.checkHandle at hk
  split at hk
  · cases hk
  · split at hk
    · cases hk
    · next hx => cases hk; exact hx

theorem State.checkSession_of_checkHandles {s : State} {p : PortIx} {lapsedToo : Bool}
    {h : SessionHandle} {k : LeaseHandle} {i : SessSlot} {x : Session} {l : LeaseSlot} {r : LeaseRecord}
    (hk : s.checkHandles p lapsedToo h k = .ok (i, x, l, r)) :
    s.checkSession p lapsedToo i h.tag = .ok x := by
  unfold State.checkHandles at hk
  split at hk
  · split at hk
    · cases hk
    · next hx =>
      split at hk
      · cases hk
      · cases hk; exact hx
  · cases hk

/-! ### The commands that keep owners and sessions -/

section Keeping

variable (p : PortIx) (args : List Byte) (s : State)

theorem defineResource_keeps : s.Keeps (defineResource p args s).state := by
  unfold defineResource
  split
  · exact .refl s
  · split
    · exact .refl s
    · split
      · exact .refl s
      · split
        · exact .refl s
        · split
          · exact .refl s
          · exact s.keeps_setEntry _ _

theorem amendResource_keeps : s.Keeps (amendResource p args s).state := by
  unfold amendResource
  split
  · exact .refl s
  · split
    · exact .refl s
    · split_ifs
      · exact .refl s
      · exact .refl s
      · exact s.keeps_setEntry _ _

theorem deleteResource_keeps : s.Keeps (deleteResource p args s).state := by
  unfold deleteResource
  split
  · exact .refl s
  · split
    · exact .refl s
    · exact State.keeps_of_parts rfl rfl rfl

theorem queryResource_keeps : s.Keeps (queryResource p args s).state := by
  unfold queryResource
  split <;> exact .refl s

theorem forceRevoke_keeps (lines : BusLines) : s.Keeps (forceRevoke lines p args s).state := by
  unfold forceRevoke
  split
  · exact .refl s
  · split
    · exact .refl s
    · exact foldl_preserves s.Keeps _ (fun t l h => h.trans (t.keeps_revokeEnding l .forced lines)) _
        (.refl s)

theorem clearFenceAccept_keeps : s.Keeps (clearFenceAccept p args s).state := by
  unfold clearFenceAccept
  split
  · exact .refl s
  · split
    · exact .refl s
    · split
      · exact .refl s
      · exact s.keeps_setEntry_grantCheck _ _

theorem clearFenceRetry_keeps (lines : BusLines) : s.Keeps (clearFenceRetry lines p args s).state := by
  unfold clearFenceRetry
  split
  · exact .refl s
  · split
    · exact .refl s
    · split
      · exact .refl s
      · exact (s.keeps_setEntry _ _).trans (State.keeps_appendJob _ _ lines)

theorem setProfile_keeps : s.Keeps (setProfile p args s).state := by
  unfold setProfile
  split
  · split
    · exact .refl s
    · exact State.keeps_of_parts rfl rfl rfl
  · split
    · exact .refl s
    · exact State.keeps_of_parts rfl rfl rfl
  · exact .refl s

theorem setBus_keeps : s.Keeps (setBus p args s).state := by
  unfold setBus
  split <;> exact State.keeps_of_parts rfl rfl rfl

theorem setLine_keeps : s.Keeps (setLine p args s).state := by
  unfold setLine
  split <;> exact State.keeps_of_parts rfl rfl rfl

theorem setThreshold_keeps : s.Keeps (setThreshold p args s).state := by
  unfold setThreshold
  split <;> exact State.keeps_of_parts rfl rfl rfl

theorem readAlerts_keeps : s.Keeps (readAlerts p args s).state := by
  unfold readAlerts
  dsimp only
  split <;> exact .refl s

theorem ackAlert_keeps : s.Keeps (ackAlert p args s).state := by
  unfold ackAlert
  split
  · exact .refl s
  · split <;> exact State.keeps_of_parts rfl rfl rfl

theorem queryLease_keeps : s.Keeps (queryLease p args s).state := by
  unfold queryLease
  split <;> exact .refl s

theorem clockStart_keeps : s.Keeps (clockStart p args s).state := by
  refine State.keeps_of_parts rfl rfl ?_
  simp only [clockStart, Clock.start]
  split <;> rfl

theorem clockStop_keeps : s.Keeps (clockStop p args s).state := by
  refine State.keeps_of_parts rfl rfl ?_
  simp only [clockStop, Clock.stop]
  split <;> rfl

theorem renew_keeps : s.Keeps (renew p args s).state := by
  unfold renew
  split
  · exact .refl s
  · next l r hk =>
    split
    · exact .refl s
    · exact .refl s
    · split
      · exact .refl s
      · split
        · exact .refl s
        · exact State.keeps_setRecord (State.record_of_checkHandles hk) rfl fun ⟨_, _, hwait⟩ =>
            ⟨withinWindow_markAt _ _, withinWindow_warnMark _ _ _, hwait⟩

end Keeping

/-! ### The commands that change owners and sessions -/

/-- A SESSION_LAPSED notice pends for a lapsed session alone. -/
theorem Session.shaped.lapsed_of_notice {x : Session} (h : x.shaped)
    (hn : x.notice = some .sessionLapsed) : x.state = .lapsed := by
  unfold Session.shaped at h
  cases hst : x.state with
  | opened => simp [hst, hn] at h
  | warned => simp [hst, hn] at h
  | lapsed => rfl

theorem Session.shaped.warning_retired {x : Session} (h : x.shaped)
    (hn : x.notice = some .sessionWarning) : ({ x with notice := none } : Session).shaped := by
  unfold Session.shaped at h ⊢
  cases hst : x.state with
  | opened => simp [hst, hn] at h
  | warned => simpa [hst, hn] using h
  | lapsed => simp [hst, hn] at h

/-- A live session has no lapse cause. -/
theorem Session.shaped.no_cause {x : Session} (h : x.shaped) (hl : x.state ≠ .lapsed) :
    x.lapseCause = none := by
  unfold Session.shaped at h
  cases hst : x.state with
  | opened => rw [hst] at h; exact h.2.2
  | warned => rw [hst] at h; exact h.2.2.2
  | lapsed => exact absurd hst hl

section Sessions

variable {s : State} (h : s.Owned none) (p : PortIx) (args : List Byte)
include h

theorem State.Owned.no_owner_of_vacant {i : SessSlot} (hi : s.session i = none) (l : LeaseSlot) :
    s.owner l ≠ some i := by
  intro ho
  obtain ⟨x, hx, -⟩ := (h.slots i).listed l ho
  rw [hi] at hx
  cases hx

theorem State.Owned.openSession : (openSession p args s).state.Owned none := by
  unfold Machine.openSession
  split
  · exact h
  · split
    · exact h
    · next a _ i hi =>
      have hi : s.session i = none := by simpa using (lowest_some_iff.1 hi).1
      refine h.replaced (fun _ => nofun) (h.no_owner_of_vacant hi) ?_
      rintro y ⟨⟩
      exact ⟨⟨nofun, rfl, rfl⟩, rfl, withinWindow_markAt _ _, withinWindow_warnMark _ _ _⟩

theorem State.Owned.keepalive : (keepalive p args s).state.Owned none := by
  unfold Machine.keepalive
  split
  · exact h
  · next i x hk =>
    have hk := State.checkSession_of_checkHandle hk
    have hx := State.session_of_checkSession hk
    exact h.rewritten hx (x.keptAlive s.clock.count) rfl rfl (fun _ => nofun)
      ⟨withinWindow_markAt _ _, withinWindow_warnMark _ _ _⟩ fun _ =>
        ⟨nofun, rfl, (h.shaped i x hx nofun).no_cause (State.alive_of_checkSession hk)⟩

theorem State.Owned.closeSession : (closeSession p args s).state.Owned none := by
  unfold Machine.closeSession
  split
  · exact h
  · next i x hk =>
    have hx := State.session_of_checkSession (State.checkSession_of_checkHandle hk)
    split
    · next hl => exact h.vacated (fun _ => nofun) (h.no_owner hx hl)
    · obtain ⟨hw, howner⟩ := h.walk (fun t l ht => ht.freeRecord l) x.records
      exact hw.vacated (fun _ => nofun) (h.no_owner_of_walk hx howner)

theorem State.Owned.purgeSession (lines : BusLines) :
    (purgeSession lines p args s).state.Owned none := by
  unfold Machine.purgeSession
  split
  · exact h
  · split
    · exact h
    · next i _ x hx =>
      split
      · next hl => exact h.vacated (fun _ => nofun) (h.no_owner hx hl)
      · obtain ⟨hw, hno⟩ := h.lapse hx .purged lines
        exact hw.vacated (fun _ => Option.some.inj) hno

theorem State.Owned.acquire : (acquire p args s).state.Owned none := by
  unfold Machine.acquire
  dsimp only
  split
  · next i mode _ _ =>
    split
    · exact h
    · next x hk =>
      have hx := State.session_of_checkSession hk
      have hxl := State.alive_of_checkSession hk
      split
      · exact h
      · next d e _ =>
        split
        · exact h
        · split
          · exact h.keeps (s.keeps_reportSpent d)
          · split
            · exact h
            · next hquota =>
              split
              · exact h
              · next l hl =>
                have hl : s.record l = none := by simpa using (lowest_some_iff.1 hl).1
                split
                · exact (h.keeps (s.keeps_setEntry d _)).allocate hx hxl hquota hl
                    (LeaseRecord.timely_granted _ _ _ _)
                · split
                  · exact h
                  · exact (h.keeps (s.keeps_setEntry d _)).allocate hx hxl hquota hl
                      ⟨withinWindow_none _, withinWindow_none _, withinWindow_waitMark _ _⟩
  · exact h

theorem State.Owned.release : (release p args s).state.Owned none := by
  unfold Machine.release
  split
  · exact h
  · exact (h.freeRecord _).owned

theorem State.Owned.retireRecord (l : LeaseSlot) : (s.retireRecord l).Owned none := by
  unfold State.retireRecord
  split
  · exact h
  · next r hr =>
    split
    · exact h
    · exact (h.freeRecord l).owned
    · exact h.keeps (State.keeps_setRecord hr rfl id)

theorem State.Owned.retireSession (i : SessSlot) : (s.retireSession i).Owned none := by
  unfold State.retireSession
  split
  · exact h
  · next x hx =>
    have hs : x.shaped := h.shaped i x hx nofun
    split
    · exact h
    · next hn =>
      exact h.rewritten hx { x with notice := none } rfl rfl id ((h.slots i).timely x hx) fun _ =>
        hs.warning_retired hn
    · next hn => exact h.vacated (fun _ => nofun) (h.no_owner hx (hs.lapsed_of_notice hn))

theorem State.Owned.fetchNotice : (fetchNotice p args s).state.Owned none := by
  unfold Machine.fetchNotice
  split
  · exact h
  · next i x _ =>
    split
    · exact h
    · next n _ =>
      dsimp only
      split
      · cases n with
        | session k => exact h.retireSession i
        | record l r n => exact h.retireRecord l
      · exact h

theorem State.Owned.acknowledge {t : State} (ht : t.Owned none) (i : SessSlot) (x : Session)
    (kind : Option Byte) : (s.acknowledge i x kind t).state.Owned none := by
  unfold State.acknowledge
  split
  · exact h
  · split
    · exact h
    · exact ht

theorem State.Owned.ackNotice : (ackNotice p args s).state.Owned none := by
  unfold Machine.ackNotice
  split
  · split
    · exact h
    · exact h.acknowledge (h.retireRecord _) _ _ _
  · split
    · exact h
    · split
      · exact h.acknowledge (h.retireSession _) _ _ _
      · exact h

end Sessions

/-! ### The clock and the resets -/

/-- Without a session and without a record nothing is left to keep. -/
theorem State.owned_of_vacant {s : State} (hs : ∀ i, s.session i = none) (hr : ∀ l, s.record l = none) :
    s.Owned none where
  slots i := by
    refine ⟨fun l ho => ?_, ?_, ?_, ?_, ?_⟩
    · simp [State.owner, hr] at ho
    all_goals
      intro x hx
      rw [hs] at hx
      cases hx
  shaped i x hx := by
    rw [hs] at hx
    cases hx
  timely l r hl := by
    rw [hr] at hl
    cases hl

theorem State.Owned.no_record_of_no_session {s : State} (h : s.Owned none) (hs : ∀ i, s.session i = none)
    (l : LeaseSlot) : s.record l = none := by
  by_contra hl
  obtain ⟨r, hr⟩ := Option.ne_none_iff_exists'.1 hl
  exact h.no_owner_of_vacant (hs r.session) l (State.owner_eq_some.2 ⟨r, hr, rfl⟩)

theorem State.owned_coldReset (s : State) (low adr : Bool) : (s.coldReset low adr).Owned none :=
  State.owned_of_vacant (fun i => congrArg SessionCell.session (s.sessionCell_coldReset low adr i))
    (s.record_coldReset low adr)

theorem State.owned_warmReset (s : State) : s.warmReset.Owned none :=
  State.owned_of_vacant (fun i => congrArg SessionCell.session (s.sessionCell_warmReset i))
    s.record_warmReset

theorem State.session_none_of_any {s : State} (h : s.sessions.toList.any (fun c => c.session.isSome) = false)
    (i : SessSlot) : s.session i = none := by
  have hi := List.any_eq_false.1 h (s.sessionCell i) (by simp [State.sessionCell, Vector.get])
  simpa [State.session] using hi

theorem State.Owned.setClock {s : State} (h : s.Owned none) (p : PortIx) (args : List Byte) :
    (setClock p args s).state.Owned none := by
  unfold Machine.setClock
  split
  · exact h
  · split_ifs with _ hany
    · exact h
    · exact h
    · have hs := State.session_none_of_any (by simpa using hany)
      exact State.owned_of_vacant hs (h.no_record_of_no_session hs)

/-- While no mark is due, no mark is reached (R73). -/
theorem State.not_reached_of_markDue {s : State} (h : s.markDue = false) :
    (∀ l m, m ∈ (s.lease l).marks → s.reached m = false) ∧
      ∀ i m, m ∈ (s.sessionCell i).marks → s.reached m = false := by
  obtain ⟨hl, hs⟩ := Bool.or_eq_false_iff.1 h
  refine ⟨fun l m hm => ?_, fun i m hm => ?_⟩
  · have hc := List.any_eq_false.1 hl (s.lease l) (by simp [State.lease, Vector.get])
    simpa using List.any_eq_false.1 (Bool.eq_false_iff.2 hc) m hm
  · have hc := List.any_eq_false.1 hs (s.sessionCell i) (by simp [State.sessionCell, Vector.get])
    simpa using List.any_eq_false.1 (Bool.eq_false_iff.2 hc) m hm

/-- A mark that is not reached lies at least one tick ahead, so it is in the window after a tick. -/
theorem withinWindow_tick {s : State} (hr : s.clock.state = .running) {m : Option Word}
    (h : withinWindow s.clock.count m) (hm : s.reached m = false) :
    withinWindow (s.clock.count + 1) m := by
  rintro w rfl
  have hw := h w rfl
  have hn : ¬ s.clock.count - w < 0x80000000 := by simpa [State.reached, hr] using hm
  bv_omega

theorem State.Owned.ticked {s : State} (h : s.Owned none) (hr : s.clock.state = .running)
    (hd : s.markDue = false) (periods : Nat) :
    ({ s with clock := { s.clock with count := s.clock.count + 1, periods := periods } } :
      State).Owned none := by
  obtain ⟨hl, hs⟩ := State.not_reached_of_markDue hd
  refine ⟨fun i => ⟨(h.slots i).listed, (h.slots i).nodup, (h.slots i).quota, (h.slots i).owns, fun x hx => ?_⟩,
    h.shaped, fun l r hlr => ?_⟩
  · obtain ⟨he, hw⟩ := (h.slots i).timely x hx
    have hi : ∀ m, m ∈ [x.expiry, x.warn] → s.reached m = false := by
      intro m hm
      refine hs i m ?_
      rw [SessionCell.marks, show (s.sessionCell i).session = some x from hx]
      exact hm
    exact ⟨withinWindow_tick hr he (hi _ (by simp)), withinWindow_tick hr hw (hi _ (by simp))⟩
  · obtain ⟨he, hw, hwait⟩ := h.timely l r hlr
    have hi : ∀ m, m ∈ [r.expiry, r.warn, r.wait] → s.reached m = false := by
      intro m hm
      refine hl l m ?_
      rw [LeaseCell.marks, show (s.lease l).record = some r from hlr]
      exact hm
    exact ⟨withinWindow_tick hr he (hi _ (by simp)), withinWindow_tick hr hw (hi _ (by simp)),
      withinWindow_tick hr hwait (hi _ (by simp))⟩

/-! ### The arbiter and the ports -/

theorem State.Owned.afterChecks {s : State} (h : s.Owned none) {management : Bool} {len : Nat}
    {body : PortIx → List Byte → State → Answer} {p : PortIx} {args : List Byte}
    (hb : (body p args s).state.Owned none) : (checked management len body p args s).state.Owned none := by
  unfold Machine.checked
  split_ifs
  · exact h
  · exact h
  · exact hb

theorem State.Owned.take {s : State} (h : s.Owned none) {row : Frame → Bool}
    {body : PortIx → List Byte → State → Answer} (hb : ∀ p args, (body p args s).state.Owned none) :
    (s.take row body).Owned none := by
  unfold State.take
  split
  · exact h
  · next p f _ =>
    dsimp only
    split
    · exact (hb p f.args).keeps (State.keeps_of_parts rfl rfl rfl)
    · exact h

/-- A command or a management command. -/
theorem State.Owned.run {s : State} (h : s.Owned none) {management : Bool} {row : Frame → Bool} {len : Nat}
    {body : PortIx → List Byte → State → Answer} (hb : ∀ p args, (body p args s).state.Owned none) :
    (s.take row (checked management len body)).Owned none :=
  h.take fun p args => h.afterChecks (hb p args)

theorem State.keeps_setPort (s : State) (p : PortIx) (x : Port) : s.Keeps (s.setPort p x) :=
  State.keeps_of_parts rfl rfl rfl

theorem State.keeps_riseRead (s : State) (p : PortIx) (clocked : Nat) : s.Keeps (s.riseRead p clocked) := by
  unfold State.riseRead
  dsimp only
  split <;> exact s.keeps_setPort p _

theorem State.keeps_riseCommand (s : State) (p : PortIx) (mosi : List Byte) (loose : Nat) :
    s.Keeps (s.riseCommand p mosi loose) := by
  unfold State.riseCommand
  dsimp only
  split
  · split
    · exact .refl s
    · exact s.keeps_setPort p _
  · split_ifs
    · exact s.keeps_riseRead p _
    · exact .refl s
    all_goals exact s.keeps_setPort p _

theorem State.keeps_mpReceive (s : State) (bytes : List Byte) (loose : Nat) :
    s.Keeps (s.mpReceive bytes loose) := by
  unfold State.mpReceive
  dsimp only
  split
  · split <;> exact State.keeps_of_parts rfl rfl rfl
  · exact State.keeps_of_parts rfl rfl rfl

/-! ### The events -/

/-- An outcome whose next state, if there is one, keeps the ownership of records and the window. -/
def leavesOwned (o : Host.Outcome State Fault Refusal) : Prop := ∀ t, o = .next t → t.Owned none

theorem leavesOwned_next {t : State} (h : t.Owned none) : leavesOwned (.next t) := by
  rintro u ⟨⟩
  exact h

section Events

variable {s : State} (h : s.Owned none)
include h

theorem State.Owned.leaves_kept {t : State} (k : s.Keeps t) : leavesOwned (.next t) :=
  leavesOwned_next (h.keeps k)

theorem State.Owned.leaves_same : leavesOwned (.next s) := leavesOwned_next h

theorem execCommandTransaction_owned (p : AgentPort) (phase : CommandPhase) :
    leavesOwned (execCommandTransaction p phase s) := by
  cases phase with
  | fall => exact h.leaves_kept (s.keeps_setPort _ _)
  | rise mosi loose => exact h.leaves_kept (s.keeps_riseCommand _ _ _)

theorem execReadTransaction_owned (p : AgentPort) (phase : ReadPhase) :
    leavesOwned (execReadTransaction p phase s) := by
  cases phase with
  | fall => exact h.leaves_kept (s.keeps_setPort _ _)
  | typed => exact h.leaves_kept (s.keeps_setPort _ _)
  | rise clocked => exact h.leaves_kept (s.keeps_riseRead _ _)

theorem execMpWrite_owned (addr : BitVec 7) (bytes : List Byte) (loose : Nat) :
    leavesOwned (execMpWrite addr bytes loose s) := by
  unfold execMpWrite
  split
  · exact h.leaves_kept (s.keeps_mpReceive _ _)
  · exact h.leaves_same

theorem execMpRead_owned (addr : BitVec 7) (count : Nat) (nackStop : Bool) :
    leavesOwned (execMpRead addr count nackStop s) := by
  unfold execMpRead
  dsimp only
  split
  · exact h.leaves_kept (s.keeps_setPort _ _)
  · exact h.leaves_same

theorem execResetPort_owned (p : PortIx) : leavesOwned (execResetPort p s) := by
  unfold execResetPort
  split
  · exact h.leaves_kept (s.keeps_mpReceive _ _)
  · exact h.leaves_kept (s.keeps_riseCommand _ _ _)

theorem execClockStop_owned : leavesOwned (execClockStop s) := by
  unfold execClockStop
  split
  · exact h.leaves_same
  · exact leavesOwned_next (h.run fun p args => h.keeps (clockStop_keeps p args s))

theorem execTick_owned (periods : Nat) : leavesOwned (execTick periods s) := by
  unfold execTick
  split
  · exact h.leaves_same
  · next hr =>
    split_ifs with hd
    · exact h.leaves_same
    · exact h.leaves_kept (State.keeps_of_parts rfl rfl rfl)
    · exact leavesOwned_next (h.ticked hr (Bool.eq_false_iff.2 hd) 0)

theorem execWarnMarkReached_owned (l : LeaseSlot) : leavesOwned (execWarnMarkReached l s) := by
  unfold execWarnMarkReached
  split
  · exact h.leaves_same
  · next r hr =>
    split
    · exact h.leaves_kept (State.keeps_setRecord hr rfl fun ⟨he, _, hw⟩ => ⟨he, withinWindow_none _, hw⟩)
    · exact h.leaves_same

theorem execHoldExpiry_owned (l : LeaseSlot) (lines : BusLines) :
    leavesOwned (execHoldExpiry l lines s) := by
  unfold execHoldExpiry
  split
  · exact h.leaves_same
  · split
    · exact h.leaves_kept (s.keeps_revokeEnding l _ lines)
    · exact h.leaves_same

theorem execWaitExpiry_owned (l : LeaseSlot) : leavesOwned (execWaitExpiry l s) := by
  unfold execWaitExpiry
  split
  · exact h.leaves_same
  · split
    · exact h.leaves_kept ((s.keeps_endRecord l _).trans (State.keeps_leaveQueue _ _ l))
    · exact h.leaves_same

theorem execSessionWarning_owned (i : SessSlot) : leavesOwned (execSessionWarning i s) := by
  unfold execSessionWarning
  split
  · exact h.leaves_same
  · next x hx =>
    split
    · next hc =>
      have hst : x.state = .opened := of_decide_eq_true (Bool.and_eq_true_iff.1 hc).1
      have hs := h.shaped i x hx nofun
      unfold Session.shaped at hs
      rw [hst] at hs
      obtain ⟨hexpiry, -, hcause⟩ := hs
      exact leavesOwned_next (h.rewritten hx
        { x with state := .warned, warn := none, notice := some .sessionWarning } rfl rfl (fun _ => nofun)
        ⟨((h.slots i).timely x hx).1, withinWindow_none _⟩ fun _ => ⟨hexpiry, rfl, nofun, hcause⟩)
    · exact h.leaves_same

theorem execSessionLapse_owned (i : SessSlot) (lines : BusLines) :
    leavesOwned (execSessionLapse i lines s) := by
  unfold execSessionLapse
  split
  · exact h.leaves_same
  · next x hx =>
    split
    · obtain ⟨hw, hno⟩ := h.lapse hx .expired lines
      refine leavesOwned_next (hw.replaced (fun _ => Option.some.inj) hno ?_)
      rintro y ⟨⟩
      exact ⟨⟨rfl, rfl, rfl, rfl, rfl⟩, rfl, withinWindow_none _, withinWindow_none _⟩
    · exact h.leaves_same

/-- A change of the bus and the fence queue, and then a start on the bus. -/
theorem State.Owned.leaves_started {u : State} (k : s.Keeps u) (lines : BusLines) :
    leavesOwned (.next (u.startAttempt lines)) :=
  h.leaves_kept (k.trans (u.keeps_startAttempt lines))

theorem State.Owned.leaves_failIdle (driven : List BusItem) (lines : BusLines) :
    leavesOwned (.next (s.failIdle driven lines)) :=
  h.leaves_started ((s.keeps_setBus (s.bus.enterIdle driven)).trans (State.keeps_failHead _)) lines

theorem execAttemptSuccess_owned (phase : AttemptPhase) : leavesOwned (execAttemptSuccess phase s) := by
  unfold execAttemptSuccess
  split
  · exact h.leaves_same
  · next a _ =>
    split
    · exact h.leaves_same
    · cases phase with
      | moved =>
        dsimp only
        split
        · exact h.leaves_same
        · exact h.leaves_kept (State.keeps_of_parts rfl rfl rfl)
      | ended lines =>
        dsimp only
        split
        · exact h.leaves_started
            ((s.keeps_setBus (s.bus.enterIdle a.sequence)).trans (State.keeps_settleHead _)) lines
        · exact h.leaves_same

theorem execAttemptNack_owned (at_ : Nat) (lines : BusLines) :
    leavesOwned (execAttemptNack at_ lines s) := by
  unfold execAttemptNack
  split
  · exact h.leaves_same
  · split
    · exact h.leaves_failIdle _ lines
    · exact h.leaves_same

theorem execReadBackMismatch_owned (b : Byte) (lines : BusLines) :
    leavesOwned (execReadBackMismatch b lines s) := by
  unfold execReadBackMismatch
  split
  · exact h.leaves_same
  · split
    · exact h.leaves_failIdle _ lines
    · exact h.leaves_same

theorem execStall_owned (at_ : Nat) : leavesOwned (execStall at_ s) := by
  unfold execStall
  split
  · exact h.leaves_same
  · next a _ =>
    have hrecovery := s.keeps_setBus (s.bus.enterRecovery a)
    dsimp only
    split_ifs
    · exact h.leaves_kept hrecovery
    · exact h.leaves_kept (hrecovery.trans (State.keeps_failHead _))
    · exact h.leaves_same

theorem execRecoveryEnd_owned (pulses : Nat) (freed : Bool) (lines : BusLines) :
    leavesOwned (execRecoveryEnd pulses freed lines s) := by
  unfold execRecoveryEnd
  split
  · exact h.leaves_started (s.keeps_setBus _) lines
  · exact h.leaves_same

theorem execRecoveryTimeout_owned (pulses : Nat) (lines : BusLines) :
    leavesOwned (execRecoveryTimeout pulses lines s) := by
  unfold execRecoveryTimeout
  split
  · exact h.leaves_started (s.keeps_setBus _) lines
  · exact h.leaves_same

theorem execAbandonedAttemptEnd_owned (at_ : Nat) (lines : BusLines) :
    leavesOwned (execAbandonedAttemptEnd at_ lines s) := by
  unfold execAbandonedAttemptEnd
  split
  · exact h.leaves_same
  · split
    · exact h.leaves_started (s.keeps_setBus _) lines
    · exact h.leaves_same

omit h in
theorem execColdReset_owned (phase : ResetPhase) : leavesOwned (execColdReset phase s) := by
  cases phase with
  | fall => exact leavesOwned_next (s.owned_coldReset _ _)
  | rise adr => exact leavesOwned_next (s.owned_coldReset _ _)

theorem execStartupComplete_owned : leavesOwned (execStartupComplete s) := by
  unfold execStartupComplete
  split
  · exact h.leaves_same
  · exact h.leaves_kept (State.keeps_of_parts rfl rfl rfl)

/-- A row of the arbiter whose body keeps owners and sessions. -/
theorem State.Owned.leaves_run {management : Bool} {row : Frame → Bool} {len : Nat}
    {body : PortIx → List Byte → State → Answer} (hb : ∀ p args (s : State), s.Keeps (body p args s).state) :
    leavesOwned (.next (s.take row (Machine.checked management len body))) :=
  leavesOwned_next (h.run fun p args => h.keeps (hb p args s))

/-- Every command and event keeps the ownership of records and the window of marks. -/
theorem exec_owned (c : Instr) : leavesOwned (exec c s) := by
  cases c with
  | commandTransaction p phase => exact execCommandTransaction_owned h p phase
  | readTransaction p phase => exact execReadTransaction_owned h p phase
  | mpWrite addr bytes loose => exact execMpWrite_owned h addr bytes loose
  | mpRead addr count nackStop => exact execMpRead_owned h addr count nackStop
  | resetPort p => exact execResetPort_owned h p
  | unknownCommand => exact leavesOwned_next (h.take fun _ _ => h)
  | openSession => exact leavesOwned_next (h.run h.openSession)
  | keepalive => exact leavesOwned_next (h.run h.keepalive)
  | closeSession => exact leavesOwned_next (h.run h.closeSession)
  | acquire => exact leavesOwned_next (h.run h.acquire)
  | release => exact leavesOwned_next (h.run h.release)
  | renew => exact h.leaves_run renew_keeps
  | queryLease => exact h.leaves_run queryLease_keeps
  | queryResource => exact h.leaves_run queryResource_keeps
  | readClock => exact h.leaves_run fun _ _ s => .refl s
  | fetchNotice => exact leavesOwned_next (h.run h.fetchNotice)
  | ackNotice => exact leavesOwned_next (h.run h.ackNotice)
  | defineResource => exact h.leaves_run defineResource_keeps
  | amendResource => exact h.leaves_run amendResource_keeps
  | deleteResource => exact h.leaves_run deleteResource_keeps
  | forceRevoke lines => exact h.leaves_run fun p args s => forceRevoke_keeps p args s lines
  | clearFenceAccept => exact h.leaves_run clearFenceAccept_keeps
  | clearFenceRetry lines => exact h.leaves_run fun p args s => clearFenceRetry_keeps p args s lines
  | clockStart => exact h.leaves_run clockStart_keeps
  | clockStop => exact execClockStop_owned h
  | setClock => exact leavesOwned_next (h.run h.setClock)
  | purgeSession lines => exact leavesOwned_next (h.run fun p args => h.purgeSession p args lines)
  | setProfile => exact h.leaves_run setProfile_keeps
  | setBus => exact h.leaves_run setBus_keeps
  | setLine => exact h.leaves_run setLine_keeps
  | setThreshold => exact h.leaves_run setThreshold_keeps
  | readAlerts => exact h.leaves_run readAlerts_keeps
  | ackAlert => exact h.leaves_run ackAlert_keeps
  | warmReset lines =>
    exact leavesOwned_next (h.run fun _ _ => s.owned_warmReset.keeps
      (s.warmReset.keeps_startAttempt lines))
  | tick periods => exact execTick_owned h periods
  | warnMarkReached l => exact execWarnMarkReached_owned h l
  | holdExpiry l lines => exact execHoldExpiry_owned h l lines
  | waitExpiry l => exact execWaitExpiry_owned h l
  | sessionWarning i => exact execSessionWarning_owned h i
  | sessionLapse i lines => exact execSessionLapse_owned h i lines
  | attemptSuccess phase => exact execAttemptSuccess_owned h phase
  | attemptNack at_ lines => exact execAttemptNack_owned h at_ lines
  | readBackMismatch b lines => exact execReadBackMismatch_owned h b lines
  | stall at_ => exact execStall_owned h at_
  | recoveryEnd pulses freed lines => exact execRecoveryEnd_owned h pulses freed lines
  | recoveryTimeout pulses lines => exact execRecoveryTimeout_owned h pulses lines
  | abandonedAttemptEnd at_ lines => exact execAbandonedAttemptEnd_owned h at_ lines
  | coldReset phase => exact execColdReset_owned phase
  | startupComplete => exact execStartupComplete_owned h
  | resetPortBadArg => exact leavesOwned_next (h.take fun _ _ => h)

end Events

/-- Settles O55: the two laws together are `Owned` with no session apart, which every event keeps. -/
theorem stepsKeepOwnershipAndMarks : Obligations.StepsKeepOwnershipAndMarks := by
  intro s t hown hmarks hstep
  have h : s.Owned none := s.owned_iff.2 ⟨hown, hmarks⟩
  refine t.owned_iff.1 ?_
  unfold step at hstep
  split at hstep
  · cases hstep
    exact h
  · next c rest _ =>
    exact exec_owned (h.keeps (t := { s with pending := rest }) (State.keeps_of_parts rfl rfl rfl)) c t hstep

end Sys2Proof.Machine
end

section
/-! SUPPORT. The lease table: what the handle checks refuse, ACQUIRE and RELEASE, and the events of reached
marks. -/

namespace Sys2Proof.Machine

/-! ### Handles refused (R37) -/

section Handles

variable {s : State} {p : PortIx} {code : Byte} {args : List Byte} {lapsedToo : Bool}

theorem State.checkHandle_badArg (h : 16 ≤ (argByte args 0).toNat) :
    s.checkHandle p lapsedToo (argSession args) = .error .badArg := by
  simp only [State.checkHandle, argSession, ranged_none h]

theorem State.checkHandle_refused {i : SessSlot} (hi : (argByte args 0).toNat = i.val) {e : Status}
    (h : s.sessionRefusal p code i (argHalf args 1) = some e) :
    s.checkHandle p (lapsedPasses code) (argSession args) = .error e := by
  simp only [State.checkHandle, argSession, ranged_some hi, State.checkSession_error h]

theorem State.checkHandles_badArg {k : Nat}
    (h : 16 ≤ (argByte args 0).toNat ∨ 128 ≤ (argByte args k).toNat) :
    s.checkHandles p lapsedToo (argSession args) (argLease args k) = .error .badArg := by
  unfold State.checkHandles
  split
  · next hi hl =>
    have hi := ranged_eq_some_iff.1 hi
    have hl := ranged_eq_some_iff.1 hl
    simp only [argSession, argLease] at hi hl
    omega
  · rfl

theorem State.checkHandles_session_refused {k : Nat} {i : SessSlot} {l : LeaseSlot}
    (hi : (argByte args 0).toNat = i.val) (hl : (argByte args k).toNat = l.val) {e : Status}
    (h : s.sessionRefusal p code i (argHalf args 1) = some e) :
    s.checkHandles p (lapsedPasses code) (argSession args) (argLease args k) = .error e := by
  simp only [State.checkHandles, argSession, argLease, ranged_some hi, ranged_some hl,
    State.checkSession_error h]

theorem State.checkHandles_lease_refused {k : Nat} {i : SessSlot} {l : LeaseSlot}
    (hi : (argByte args 0).toNat = i.val) (hl : (argByte args k).toNat = l.val)
    (hs : s.sessionRefusal p code i (argHalf args 1) = none) {e : Status}
    (h : s.leaseRefusal i l (argHalf args (k + 1)) = some e) :
    s.checkHandles p (lapsedPasses code) (argSession args) (argLease args k) = .error e := by
  obtain ⟨x, -, hx⟩ := State.checkSession_pass hs
  simp only [State.checkHandles, argSession, argLease, ranged_some hi, ranged_some hl, hx,
    State.checkLease_error h]

/-- A command with a session handle alone answers the refusal of its handle. -/
theorem exec_sessionCommand_refused (hnext : s.nextTake = some (p, ⟨code, args⟩))
    (hcmd : (code ∈ [Code.keepalive, Code.closeSession, Code.fetchNotice] ∧ args.length = 3) ∨
      (code = Code.ackNotice ∧ args.length = 7 ∧ argByte args 3 ≠ 1)) {e : Status}
    (h : s.checkHandle p (lapsedPasses code) (argSession args) = .error e) (lines : BusLines) :
    exec (Frame.event ⟨code, args⟩ lines) s = .next (s.answer p code e []) := by
  simp only [List.mem_cons, List.not_mem_nil, or_false] at hcmd
  rcases hcmd with ⟨rfl | rfl | rfl, hl⟩ | ⟨rfl, hl, hkind⟩
  · have hbody : keepalive p args s = s.refuse e := by
      rw [keepalive, show s.checkHandle p false _ = .error e from h]
    exact congrArg _ (State.command_answers hnext hl hbody)
  · have hbody : closeSession p args s = s.refuse e := by
      rw [closeSession, show s.checkHandle p true _ = .error e from h]
    exact congrArg _ (State.command_answers hnext hl hbody)
  · have hbody : fetchNotice p args s = s.refuse e := by
      rw [fetchNotice, show s.checkHandle p true _ = .error e from h]
    exact congrArg _ (State.command_answers hnext hl hbody)
  · have hbody : ackNotice p args s = s.refuse e := by
      rw [ackNotice, if_neg hkind, show s.checkHandle p true _ = .error e from h]
    exact congrArg _ (State.command_answers hnext hl hbody)

/-- A command with a session handle and a lease handle answers the refusal of its handles. -/
theorem exec_leaseCommand_refused (hnext : s.nextTake = some (p, ⟨code, args⟩)) {k : Nat}
    (hcmd : (code ∈ [Code.release, Code.renew, Code.queryLease] ∧ args.length = 6 ∧ k = 3) ∨
      (code = Code.ackNotice ∧ args.length = 7 ∧ argByte args 3 = 1 ∧ k = 4)) {e : Status}
    (h : s.checkHandles p (lapsedPasses code) (argSession args) (argLease args k) = .error e)
    (lines : BusLines) :
    exec (Frame.event ⟨code, args⟩ lines) s = .next (s.answer p code e []) := by
  simp only [List.mem_cons, List.not_mem_nil, or_false] at hcmd
  rcases hcmd with ⟨rfl | rfl | rfl, hl, rfl⟩ | ⟨rfl, hl, hkind, rfl⟩
  · have hbody : release p args s = s.refuse e := by
      rw [release, show s.checkHandles p false _ _ = .error e from h]
    exact congrArg _ (State.command_answers hnext hl hbody)
  · have hbody : renew p args s = s.refuse e := by
      rw [renew, show s.checkHandles p false _ _ = .error e from h]
    exact congrArg _ (State.command_answers hnext hl hbody)
  · have hbody : queryLease p args s = s.refuse e := by
      rw [queryLease, show s.checkHandles p true _ _ = .error e from h]
    exact congrArg _ (State.command_answers hnext hl hbody)
  · have hbody : ackNotice p args s = s.refuse e := by
      rw [ackNotice, if_pos hkind, show s.checkHandles p true _ _ = .error e from h]
    exact congrArg _ (State.command_answers hnext hl hbody)

end Handles

/-- Settles O14: the handle check answers its first failure, and the command answers that. -/
theorem handlesAreCheckedInOrder : Obligations.HandlesAreCheckedInOrder := by
  intro s p code args lines hnext run
  refine ⟨fun hcmd => ⟨fun h16 => ?_, fun i e hi he => ?_⟩, fun k hcmd => ⟨fun hbad => ?_,
    fun i l hi hl => ⟨fun e he => ?_, fun e hpass he => ?_⟩⟩⟩
  · exact exec_sessionCommand_refused hnext hcmd (State.checkHandle_badArg h16) lines
  · exact exec_sessionCommand_refused hnext hcmd (State.checkHandle_refused hi he) lines
  · exact exec_leaseCommand_refused hnext hcmd (State.checkHandles_badArg hbad) lines
  · exact exec_leaseCommand_refused hnext hcmd (State.checkHandles_session_refused hi hl he) lines
  · exact exec_leaseCommand_refused hnext hcmd (State.checkHandles_lease_refused hi hl hpass he) lines

/-! ### ACQUIRE (R22, R45, R46, R48) -/

theorem decodeMode_code (mode : LeaseMode) : decodeMode mode.code = some mode := by
  cases mode <;> rfl

theorem State.hasClaim_iff {s : State} {x : Session} {d : DirSlot} :
    s.hasClaim x d = true ↔ s.claims x d := by
  unfold State.hasClaim State.claims
  rw [List.any_eq_true]
  refine exists_congr fun l => ?_
  cases s.record l <;> simp

section Acquire

variable {s : State} {p : PortIx} {args : List Byte} {mode : LeaseMode} {i : SessSlot} {x : Session}
  {d : DirSlot} {e : Entry} {l : LeaseSlot}

/-- An ACQUIRE that passes its checks comes to the choice of R45. -/
theorem acquire_of_passes (h : s.acquirePasses p args mode i x d e l) : acquire p args s =
    if e.grantable mode then s.grantAtOnce i d e mode l
    else if argHalf args 8 = 0 then s.refuse .conflict
    else s.enqueue i d e mode (argHalf args 8) l := by
  obtain ⟨⟨-, hmode, hnames, halive, hfind⟩, hclaim, hspent, hquota, hlowest⟩ := h
  have hcheck : s.checkSession p false i (argSession args).tag = .ok x :=
    State.checkSession_of_checkHandle (State.checkHandle_ok hnames (.inl halive))
  have hslot : ranged 16 (argSession args).slot = some i := ranged_some hnames.1
  have hfree : lowest 128 (fun l => (s.record l).isNone) = some l :=
    lowest_some_iff.2 (by simpa using hlowest)
  simp only [acquire, hslot, hmode, decodeMode_code, hcheck, hfind, State.hasClaim_iff, hclaim, hspent,
    hquota, hfree, if_false]

/-- A slot taken into use: the next issue number, and the tail of its session's list (R22, R25). -/
theorem State.allocate_eq {q : LeaseRecord} (hx : s.session q.session = some x) : s.allocate l q =
    (s.setLease l { issue := (s.lease l).issue + 1, record := some q }).setSession q.session
      (some { x with records := x.records ++ [l] }) := by
  simp only [State.allocate, State.modifySession, State.session_setLease, hx]

theorem State.lease_allocate {q : LeaseRecord} (hx : s.session q.session = some x) :
    (s.allocate l q).lease l = { issue := (s.lease l).issue + 1, record := some q } := by
  rw [State.allocate_eq hx, State.lease_setSession, State.lease_setLease, if_pos rfl]

theorem Entry.granted_current (e : Entry) (l : LeaseSlot) (mode : LeaseMode) :
    (e.granted l mode).current = e.current := by cases mode <;> rfl

end Acquire

/-- Settles O22: a request that passes is granted or queued, in the slot taken into use for it. -/
theorem acquireGrantsAtOnceOrQueues : Obligations.AcquireGrantsAtOnceOrQueues := by
  intro s p args mode i x d e l hnext hpass issue listed count expiry limit
  have hbody := acquire_of_passes hpass
  obtain ⟨⟨hlen, -, ⟨-, hx, -, -⟩, -, -⟩, -⟩ := hpass
  refine ⟨fun hg => ?_, fun hg hlimit => ?_⟩
  · rw [if_pos (Entry.grantable_iff.2 hg)] at hbody
    intro e'
    have he' : e' = e.granted l mode := by cases mode <;> rfl
    have hstate : (s.grantAtOnce i d e mode l).state = listed ((s.setEntry d (some e')).setLease l
        { issue := issue
          record := some ((newRecord i d mode).granted (e.granted l mode) count none) }) := by
      rw [he']
      exact State.allocate_eq hx
    refine (congrArg Host.Outcome.next (State.command_answers hnext hlen hbody)).trans ?_
    rw [hstate, he']
    simp only [State.grantAtOnce, State.handleBytes, LeaseRecord.granted, Entry.granted_current]
    rw [State.lease_allocate (x := x) hx]
    rfl
  · rw [if_neg (mt Entry.grantable_iff.1 hg), if_neg hlimit] at hbody
    refine (congrArg Host.Outcome.next (State.command_answers hnext hlen hbody)).trans ?_
    simp only [State.enqueue, State.handleBytes, List.length_append, List.length_singleton]
    rw [State.lease_allocate (x := x) hx, State.allocate_eq (x := x) hx]
    rfl

/-! ### RELEASE (R34, R58) -/

/-- Settles O23: RELEASE frees its record, and what freeing does is its record's state's. -/
theorem releaseFreesTheRecord : Obligations.ReleaseFreesTheRecord := by
  constructor
  · intro s p args i x l r hnext hlen hsession halive hlease
    have hbody : release p args s =
        { state := s.freeRecord l, status := if r.state = .ended then .ended else .ok, fields := [] } := by
      simp only [release, State.checkHandles_ok hsession (.inl halive) hlease]
    exact congrArg _ (State.command_answers hnext hlen hbody)
  · intro s l r x hr hx vacated
    have hv : s.vacateRecord l = vacated := State.vacateRecord_eq hr hx
    refine ⟨fun hst => ?_, fun hst => ?_, fun hst e he => ?_⟩
    · simp only [State.freeRecord, hr, hst, hv]
    · rcases hst with hst | hst <;> simp only [State.freeRecord, hr, hst, hv]
    · have he' : vacated.entry r.resource = some e := he
      simp only [State.freeRecord, hr, hst, hv, State.leaveQueue, State.modifyEntry, he']

/-! ### Reached marks (R28, R29, R31, R90) -/

theorem State.priorityOf_eq {s : State} {i : DirSlot} {e : Entry} (h : s.entry i = some e) :
    s.priorityOf i = e.priority := by simp only [State.priorityOf, h, Option.map_some, Option.getD_some]

/-- Settles O26: the two warning events, each with its mark reached and not reached. -/
theorem warnMarksWarn : Obligations.WarnMarksWarn := by
  refine ⟨fun s l r e hr hst hm he => ?_, fun s l hm => ?_, fun s i x hx hst hm => ?_, fun s i hm => ?_⟩
  · simp only [exec, execWarnMarkReached, hr, hst, hm, decide_true, Bool.and_self, if_true,
      State.priorityOf_eq he, LeaseRecord.warnedWith]
  · simp only [exec, execWarnMarkReached]
    cases hr : s.record l with
    | none => rfl
    | some r => simp only [hm r hr, Bool.and_false, Bool.false_eq_true, if_false]
  · simp only [exec, execSessionWarning, hx, hst, hm, decide_true, Bool.and_self, if_true]
  · simp only [exec, execSessionWarning]
    cases hx : s.session i with
    | none => rfl
    | some x => simp only [hm x hx, Bool.and_false, Bool.false_eq_true, if_false]

/-- Settles O27: the expiry event is the revocation, which ends the record and gives it up by its mode. -/
theorem holdExpiryRevokesTheRecord : Obligations.HoldExpiryRevokesTheRecord := by
  refine ⟨fun s l r lines hr hst hm => ?_, fun s l lines hm => ?_, ?_⟩
  · simp only [exec, execHoldExpiry, hr, LeaseRecord.live_iff.2 hst, hm, Bool.and_self, if_true]
  · simp only [exec, execHoldExpiry]
    cases hr : s.record l with
    | none => rfl
    | some r => simp only [hm r hr, Bool.and_false, Bool.false_eq_true, if_false]
  · intro s l r e cause lines hr he ended
    have hend : s.endRecord l cause = ended := by
      rw [s.endRecord_some hr cause, State.priorityOf_eq he]
      rfl
    exact ⟨fun hmode => by simp only [State.revokeEnding, hr, hend, State.revokeAt, hmode],
      fun hmode => by simp only [State.revokeEnding, hr, hend, State.revokeAt, hmode]⟩

/-- Settles O28: the wait's event ends the record, which leaves the queue of its entry. -/
theorem waitExpiryEndsTheWait : Obligations.WaitExpiryEndsTheWait := by
  refine ⟨fun s l r e hr hst hm he => ?_, fun s l hm => ?_⟩
  · simp only [exec, execWaitExpiry, hr, hst, hm, decide_true, Bool.and_self, if_true,
      s.endRecord_some hr, State.priorityOf_eq he, LeaseRecord.endedWith, State.leaveQueue,
      State.modifyEntry, State.entry_setRecord, he]
  · simp only [exec, execWaitExpiry]
    cases hr : s.record l with
    | none => rfl
    | some r => simp only [hm r hr, Bool.and_false, Bool.false_eq_true, if_false]

end Sys2Proof.Machine
end

section
/-! SUPPORT. FETCH NOTICE and ACK NOTICE: what they answer, and what a notice retired leaves. -/

namespace Sys2Proof.Machine

/-! ### Notices retired and counted (R33, R91, R97, R149) -/

theorem State.retireRecord_eq {s : State} {l : LeaseSlot} {r : LeaseRecord} {n : Notice}
    (hr : s.record l = some r) (hn : r.notice = some n) : s.retireRecord l =
      if n.kind = .ended then s.freeRecord l else s.setRecord l (some { r with notice := none }) := by
  simp only [State.retireRecord, hr, hn, Option.map_some]
  cases n.kind <;> rfl

theorem State.retireSession_eq {s : State} {i : SessSlot} {x : Session} {k : SessionNotice}
    (hx : s.session i = some x) (hk : x.notice = some k) : s.retireSession i =
      match k with
      | .sessionWarning => s.setSession i (some { x with notice := none })
      | .sessionLapsed => s.setSession i none := by
  simp only [State.retireSession, hx, hk]
  cases k <;> rfl

/-- The pending count is the session's own notice and the notices of the records in its list. -/
theorem State.pendingCount_eq {s : State} {i : SessSlot} {x : Session} (hx : s.session i = some x) :
    s.pendingCount i = (if x.notice = none then 0 else 1) +
      x.records.countP (fun l => (s.record l).any fun r => r.notice ≠ none) := by
  simp only [State.pendingCount, hx, State.pendingPriorities, List.length_append,
    List.length_filterMap_eq_countP]
  congr 1
  · cases x.notice <;> rfl
  · refine List.countP_congr fun l _ => ?_
    cases s.record l with
    | none => simp
    | some r => simp [Option.isSome_iff_ne_none]

/-! ### FETCH NOTICE (R149, R150) -/

/-- What FETCH NOTICE leaves: the notice goes in FETCH_RETIRES mode alone (R150). -/
def State.fetched (s : State) (i : SessSlot) (x : Session) (n : Selected) : State :=
  if x.noticeMode = .fetchRetires then s.retire i n else s

section Fetch

variable {s : State} {p : PortIx} {args : List Byte} {i : SessSlot} {x : Session}

theorem fetchNotice_none (h : s.namesSession p args i x) (hn : s.selectNotice x = none) :
    fetchNotice p args s = s.refuse .none_ := by
  simp only [fetchNotice, State.checkHandle_ok h (.inr rfl), hn]

theorem fetchNotice_selected (h : s.namesSession p args i x) {n : Selected}
    (hn : s.selectNotice x = some n) : fetchNotice p args s =
      { state := s.fetched i x n, status := .ok,
        fields := s.noticeFields x ((s.fetched i x n).pendingCount i) n } := by
  simp only [fetchNotice, State.checkHandle_ok h (.inr rfl), hn, State.fetched]
  cases x.noticeMode <;> rfl

/-- The bytes of a record's notice (R149). -/
theorem State.noticeFields_record (s : State) (x : Session) (count : Nat) (l : LeaseSlot)
    (r : LeaseRecord) (m : Notice) : s.noticeFields x count (.record l r m) =
      [m.kind.code, natByte m.priority,
        presence [true, r.token.isSome, r.expiry.isSome, r.warn.isSome], natByte l] ++
        halfBytes (s.lease l).issue ++
        wordBytes (match s.entry r.resource with | none => 0 | some e => e.key) ++ [r.mode.code] ++
        wordBytes (r.token.getD 0) ++ wordBytes (r.expiry.getD 0) ++ wordBytes (r.warn.getD 0) ++
        [(if m.kind = .ended then EndCause.code r.endCause else 0), natByte count] := by
  have hkey : s.keyOf r.resource = match s.entry r.resource with | none => 0 | some e => e.key := by
    unfold State.keyOf
    cases s.entry r.resource <;> rfl
  rw [← hkey]
  rfl

/-- The bytes of a SESSION_WARNING (R149). -/
theorem State.noticeFields_warning (s : State) (x : Session) (count : Nat) :
    s.noticeFields x count (.session .sessionWarning) =
      [4, natByte x.warnPriority, presence [false, false, x.expiry.isSome, false]] ++
        List.replicate 12 0 ++ wordBytes (x.expiry.getD 0) ++ [0, 0, 0, 0] ++ [0, natByte count] := rfl

/-- The bytes of a SESSION_LAPSED (R149). -/
theorem State.noticeFields_lapsed (s : State) (x : Session) (count : Nat) :
    s.noticeFields x count (.session .sessionLapsed) =
      [5, 7, 0] ++ List.replicate 20 0 ++ [LapseCause.code x.lapseCause, natByte count] := by
  have hzero : wordBytes 0 = List.replicate 4 0 := by decide
  have habsent : optWordBytes none = List.replicate 4 0 := hzero
  have hflags : presence [false, false, false, false] = 0 := by decide
  simp only [State.noticeFields, reduceCtorEq, if_false, if_true, habsent, hzero, Option.isSome_none, hflags]
  rfl

end Fetch

/-! ### ACK NOTICE (R151) -/

section Acknowledge

variable {s : State} {p : PortIx} {args : List Byte} {i : SessSlot} {x : Session}

theorem ackNotice_kind_bad (h : s.namesSession p args i x) (hk : 1 < (argByte args 3).toNat) :
    ackNotice p args s = s.refuse .badArg := by
  have h1 : argByte args 3 ≠ 1 := by bv_omega
  have h0 : argByte args 3 ≠ 0 := by bv_omega
  simp only [ackNotice, if_neg h1, State.checkHandle_ok h (.inr rfl), if_neg h0]

theorem ackNotice_session (h : s.namesSession p args i x) (hk : argByte args 3 = 0) :
    ackNotice p args s = s.acknowledge i x (x.notice.map SessionNotice.code) (s.retireSession i) := by
  have h1 : argByte args 3 ≠ 1 := by bv_omega
  simp only [ackNotice, if_neg h1, State.checkHandle_ok h (.inr rfl), if_pos hk]

theorem ackNotice_record (h : s.namesSession p args i x) (hk : argByte args 3 = 1) {l : LeaseSlot}
    {r : LeaseRecord} (hl : s.namesLease args 4 i l r) : ackNotice p args s =
      s.acknowledge i x (r.notice.map fun n => n.kind.code) (s.retireRecord l) := by
  simp only [ackNotice, if_pos hk, State.checkHandles_ok h (.inr rfl) hl]

/-- Checks 2 and 3 of R151 and the acknowledgement, for a target whose pending notice has code `kind`. -/
theorem exec_ackNotice_target (hnext : s.nextTake = some (p, ⟨Code.ackNotice, args⟩))
    (hlen : args.length = 7) {kind : Option Byte} {t : State}
    (hbody : ackNotice p args s = s.acknowledge i x kind t) :
    (x.noticeMode = .fetchRetires →
      exec .ackNotice s = .next (s.answer p Code.ackNotice .badState [])) ∧
    (x.noticeMode = .ackRequired → kind = none →
      exec .ackNotice s = .next (s.answer p Code.ackNotice .none_ [])) ∧
    ∀ k, x.noticeMode = .ackRequired → kind = some k →
      exec .ackNotice s = .next (t.answer p Code.ackNotice .ok [k, natByte (t.pendingCount i)]) := by
  refine ⟨fun hm => ?_, fun hm hk => ?_, fun k hm hk => ?_⟩
  all_goals refine congrArg Host.Outcome.next ((State.command_answers hnext hlen hbody).trans ?_)
  · simp only [State.acknowledge, hm, if_true, State.refuse]
  · simp only [State.acknowledge, hm, hk, reduceCtorEq, if_false, State.refuse]
  · simp only [State.acknowledge, hm, hk, reduceCtorEq, if_false]

end Acknowledge

/-- Settles O35: the two commands by their targets, and what retiring and counting notices comes to. -/
theorem fetchAndAckRetireNotices : Obligations.FetchAndAckRetireNotices := by
  refine ⟨fun s p args i x hnext hlen hsession => ⟨fun hnone => ?_, fun n t hn ht => ?_⟩,
    fun s p args i x hnext hlen hsession => ⟨fun hkind => ?_, fun hkind => ?_, fun l r hkind hlease => ?_⟩,
    fun s l r n hr hn => State.retireRecord_eq hr hn, fun s i hx => ?_, fun s i x hx =>
      ⟨State.pendingCount_eq hx, fun hk => State.retireSession_eq hx hk, fun hk =>
        State.retireSession_eq hx hk⟩⟩
  · exact congrArg _ (State.command_answers hnext hlen (fetchNotice_none hsession hnone))
  · have hfetched : s.fetched i x n = t := by
      rw [ht]
      cases n <;> rfl
    have hbody := fetchNotice_selected hsession hn
    rw [hfetched] at hbody
    refine congrArg Host.Outcome.next ((State.command_answers hnext hlen hbody).trans ?_)
    cases n with
    | record l r m => exact congrArg (t.answer p Code.fetchNotice .ok) (s.noticeFields_record x _ l r m)
    | session k =>
      cases k with
      | sessionWarning => exact congrArg (t.answer p Code.fetchNotice .ok) (s.noticeFields_warning x _)
      | sessionLapsed => exact congrArg (t.answer p Code.fetchNotice .ok) (s.noticeFields_lapsed x _)
  · exact congrArg _ (State.command_answers hnext hlen (ackNotice_kind_bad hsession hkind))
  · obtain ⟨hbad, hnone, hok⟩ := exec_ackNotice_target hnext hlen (ackNotice_session hsession hkind)
    exact ⟨hbad, fun hm hn => hnone hm (by rw [hn]; rfl), fun k hm hn => hok _ hm (by rw [hn]; rfl)⟩
  · obtain ⟨hbad, hnone, hok⟩ := exec_ackNotice_target hnext hlen (ackNotice_record hsession hkind hlease)
    exact ⟨hbad, fun hm hn => hnone hm (by rw [hn]; rfl), fun n hm hn => hok _ hm (by rw [hn]; rfl)⟩
  · simp only [State.pendingCount, hx]

end Sys2Proof.Machine
end

section
/-! SUPPORT. ACQUIRE's refusals, in the order of its checks. -/

namespace Sys2Proof.Machine

/-! ### The operands of ACQUIRE (R41 step 1) -/

theorem decodeMode_eq_none {b : Byte} (h : 1 < b.toNat) : decodeMode b = none := by
  have h0 : b ≠ 0 := by bv_omega
  have h1 : b ≠ 1 := by bv_omega
  simp only [decodeMode, h0, h1, if_false]

theorem exists_decodeMode {b : Byte} (h : b.toNat ≤ 1) : ∃ mode, decodeMode b = some mode := by
  have h01 : b = 0 ∨ b = 1 := by bv_omega
  rcases h01 with rfl | rfl
  · exact ⟨.shared, rfl⟩
  · exact ⟨.exclusive, rfl⟩

/-! ### The count held to the quota (R44) -/

/-- A list with no VACANT slot is counted whole. -/
theorem State.recordCount_eq_length {s : State} {x : Session}
    (h : ∀ l, l ∈ x.records → s.record l ≠ none) : s.recordCount x = x.records.length := by
  unfold State.recordCount
  rw [List.filter_eq_self.2 fun l hl => Option.isSome_iff_ne_none.2 (h l hl)]

/-! ### The refusals (R41 to R44, R47) -/

section Refusals

variable {s : State} {p : PortIx} {args : List Byte} {mode : LeaseMode} {i : SessSlot} {x : Session}
  {d : DirSlot} {e : Entry}

theorem acquire_badArg (h : 16 ≤ (argByte args 0).toNat ∨ 1 < (argByte args 7).toNat) :
    acquire p args s = s.refuse .badArg := by
  rcases h with h | h
  · have hslot : ranged 16 (argSession args).slot = none := ranged_none h
    simp only [acquire, hslot]
  · simp only [acquire, decodeMode_eq_none h]
    cases ranged 16 (argSession args).slot <;> rfl

theorem acquire_session_refused (hmode : (argByte args 7).toNat ≤ 1)
    (hi : (argByte args 0).toNat = i.val) {st : Status}
    (h : s.sessionRefusal p Code.acquire i (argHalf args 1) = some st) :
    acquire p args s = s.refuse st := by
  obtain ⟨mode, hmode⟩ := exists_decodeMode hmode
  have hslot : ranged 16 (argSession args).slot = some i := ranged_some hi
  have hcheck : s.checkSession p false i (argSession args).tag = .error st :=
    State.checkSession_error h
  simp only [acquire, hslot, hmode, hcheck]

/-- The handle of a live session passes the first two checks of ACQUIRE. -/
theorem State.namesSession.passes (h : s.namesSession p args i x) (hl : x.alive) :
    ranged 16 (argSession args).slot = some i ∧
      s.checkSession p false i (argSession args).tag = .ok x :=
  ⟨ranged_some h.1, State.checkSession_of_checkHandle (State.checkHandle_ok h (.inl hl))⟩

theorem acquire_noResource (hmode : (argByte args 7).toNat ≤ 1) (h : s.namesSession p args i x)
    (hl : x.alive) (hfind : s.findKey (argWord args 3) = none) :
    acquire p args s = s.refuse .noResource := by
  obtain ⟨mode, hmode⟩ := exists_decodeMode hmode
  obtain ⟨hslot, hcheck⟩ := h.passes hl
  simp only [acquire, hslot, hmode, hcheck, hfind]

theorem acquire_duplicate (h : s.acquireNames p args mode i x d e) (hclaim : s.claims x d) :
    acquire p args s = s.refuse .duplicate := by
  obtain ⟨-, hmode, hnames, halive, hfind⟩ := h
  obtain ⟨hslot, hcheck⟩ := hnames.passes halive
  simp only [acquire, hslot, hmode, decodeMode_code, hcheck, hfind, State.hasClaim_iff, hclaim, if_true]

theorem acquire_spent (h : s.acquireNames p args mode i x d e) (hclaim : ¬ s.claims x d)
    (hspent : mode = .exclusive ∧ e.spent = true) :
    acquire p args s = (s.reportSpent d).refuse .spent := by
  obtain ⟨-, hmode, hnames, halive, hfind⟩ := h
  obtain ⟨hslot, hcheck⟩ := hnames.passes halive
  simp only [acquire, hslot, hmode, decodeMode_code, hcheck, hfind, State.hasClaim_iff, hclaim, hspent,
    and_self, if_false, if_true]

theorem acquire_quota (h : s.acquireNames p args mode i x d e) (hclaim : ¬ s.claims x d)
    (hspent : ¬ (mode = .exclusive ∧ e.spent = true)) (hquota : s.recordCount x = x.quota) :
    acquire p args s = s.refuse .quota := by
  obtain ⟨-, hmode, hnames, halive, hfind⟩ := h
  obtain ⟨hslot, hcheck⟩ := hnames.passes halive
  simp only [acquire, hslot, hmode, decodeMode_code, hcheck, hfind, State.hasClaim_iff, hclaim, hspent,
    hquota, if_false, if_true]

theorem acquire_tableFull (h : s.acquireNames p args mode i x d e) (hclaim : ¬ s.claims x d)
    (hspent : ¬ (mode = .exclusive ∧ e.spent = true)) (hquota : s.recordCount x ≠ x.quota)
    (hfull : ∀ l, s.record l ≠ none) : acquire p args s = s.refuse .tableFull := by
  obtain ⟨-, hmode, hnames, halive, hfind⟩ := h
  obtain ⟨hslot, hcheck⟩ := hnames.passes halive
  have hfree : lowest 128 (fun l => (s.record l).isNone) = none :=
    lowest_none_iff.2 fun l => Option.isNone_eq_false_iff.2 (Option.isSome_iff_ne_none.2 (hfull l))
  simp only [acquire, hslot, hmode, decodeMode_code, hcheck, hfind, State.hasClaim_iff, hclaim, hspent,
    hquota, hfree, if_false]

/-- When some slot is VACANT, there is a lowest VACANT slot (R22). -/
theorem State.exists_isLowest_vacant (h : ∃ l, s.record l = none) :
    ∃ l, isLowest (fun k => s.record k = none) l := by
  cases hfree : lowest 128 (fun l => (s.record l).isNone) with
  | none =>
    obtain ⟨l, hl⟩ := h
    simpa [hl] using lowest_none_iff.1 hfree l
  | some l => exact ⟨l, by simpa using lowest_some_iff.1 hfree⟩

theorem acquire_conflict (h : s.acquireNames p args mode i x d e) (hclaim : ¬ s.claims x d)
    (hspent : ¬ (mode = .exclusive ∧ e.spent = true)) (hquota : s.recordCount x ≠ x.quota)
    (hfree : ∃ l, s.record l = none) (hg : ¬ e.takesAtOnce mode) (hlimit : argHalf args 8 = 0) :
    acquire p args s = s.refuse .conflict := by
  obtain ⟨l, hl⟩ := State.exists_isLowest_vacant hfree
  rw [acquire_of_passes ⟨h, hclaim, hspent, hquota, hl⟩, if_neg (mt Entry.grantable_iff.1 hg),
    if_pos hlimit]

/-- The answer of ACQUIRE's body is the answer of the next frame. -/
theorem exec_acquire_answers (hnext : s.nextTake = some (p, ⟨Code.acquire, args⟩))
    (hlen : args.length = 10) {a : Answer} (hbody : acquire p args s = a) :
    exec .acquire s = .next (a.state.answer p Code.acquire a.status a.fields) :=
  congrArg _ (State.command_answers hnext hlen hbody)

/-- The SPENT refusal: the first one on an entry reports it, and the later ones change no table (R7). -/
theorem exec_acquire_spent (hnext : s.nextTake = some (p, ⟨Code.acquire, args⟩))
    (h : s.acquireNames p args mode i x d e) (hclaim : ¬ s.claims x d)
    (hspent : mode = .exclusive ∧ e.spent = true) :
    (e.spentReported = true → exec .acquire s = .next (s.answer p Code.acquire .spent [])) ∧
      (e.spentReported = false → exec .acquire s = .next
        (((s.setEntry d (some { e with spentReported := true })).raiseSpent d).answer p
          Code.acquire .spent [])) := by
  have hbody := acquire_spent h hclaim hspent
  obtain ⟨hlen, -, -, -, hfind⟩ := h
  have he : s.entry d = some e := (State.findKey_some hfind).1
  refine ⟨fun hrep => ?_, fun hrep => ?_⟩
  · rw [State.reportSpent_again he hrep] at hbody
    exact exec_acquire_answers hnext hlen hbody
  · rw [State.reportSpent_first he hrep] at hbody
    exact exec_acquire_answers hnext hlen hbody

end Refusals

/-- Settles O21: each check has its refusal, and the body's answer is the next frame's. -/
theorem acquireIsCheckedInOrder : Obligations.AcquireIsCheckedInOrder := by
  refine ⟨fun s x => State.recordCount_eq_length, ?_⟩
  intro s p args hnext hlen refused
  refine ⟨fun hbad => ?_, fun i st hmode hi hst => ?_, fun i x hmode hsession halive =>
    ⟨fun hfind => ?_, fun mode d e hnames => ⟨fun hclaim => ?_, fun hclaim hspent => ?_,
      fun hclaim hspent => ⟨fun hquota => ?_, fun hquota hfull => ?_,
        fun hquota hfree hg hlimit => ?_⟩⟩⟩⟩
  · exact exec_acquire_answers hnext hlen (acquire_badArg hbad)
  · exact exec_acquire_answers hnext hlen (acquire_session_refused hmode hi hst)
  · exact exec_acquire_answers hnext hlen (acquire_noResource hmode hsession halive hfind)
  · exact exec_acquire_answers hnext hlen (acquire_duplicate hnames hclaim)
  · exact exec_acquire_spent hnext hnames hclaim hspent
  · exact exec_acquire_answers hnext hlen (acquire_quota hnames hclaim hspent hquota)
  · exact exec_acquire_answers hnext hlen (acquire_tableFull hnames hclaim hspent hquota hfull)
  · exact exec_acquire_answers hnext hlen
      (acquire_conflict hnames hclaim hspent hquota hfree hg hlimit)

end Sys2Proof.Machine
end

section
/-! SUPPORT. Marks: where they are set, when they are reached, and when one is due. -/

namespace Sys2Proof.Machine

/-! ### Tables searched whole -/

/-- A search over the cells of a table is one over its slots. -/
theorem any_toList_iff {α : Type} {n : Nat} {v : Vector α n} {f : α → Bool} :
    v.toList.any f = true ↔ ∃ i : Fin n, f (v.get i) = true := by
  rw [Vector.any_toList, Vector.any_eq_true]
  exact ⟨fun ⟨i, hi, h⟩ => ⟨⟨i, hi⟩, h⟩, fun ⟨i, h⟩ => ⟨i.val, i.isLt, h⟩⟩

/-! ### Marks set ahead of the count (R72, R76, R88) -/

theorem markAt_toNat (count : Word) (offset : Half) :
    (markAt count offset).toNat = (count.toNat + offset.toNat) % 2 ^ 32 := by
  unfold markAt
  bv_omega

theorem markAt_ne_count (count : Word) {offset : Half} (h : offset ≠ 0) : count ≠ markAt count offset := by
  unfold markAt
  bv_omega

theorem warnMark_of_lt (count : Word) {term lead : Half} (h0 : 0 < lead.toNat)
    (hlt : lead.toNat < term.toNat) : warnMark count term lead = some (markAt count (term - lead)) :=
  if_neg (by bv_omega)

theorem warnMark_eq_none (count : Word) {term lead : Half}
    (h : lead.toNat = 0 ∨ term.toNat ≤ lead.toNat) : warnMark count term lead = none :=
  if_pos (by bv_omega)

/-! ### Marks reached (R73) -/

@[simp] theorem State.reached_none (s : State) : s.reached none = false := by
  unfold State.reached
  cases s.clock.state <;> rfl

theorem State.reached_some_iff {s : State} {m : Word} : s.reached (some m) = true ↔
    s.clock.state = .running ∧ (s.clock.count - m).toNat < 2 ^ 31 := by
  unfold State.reached
  cases s.clock.state with
  | stopped => simp
  | running => simp [BitVec.lt_def]

/-- A mark in the window lies less than 2^31 ticks ahead, so of the counts up to it only its own has
passed it. -/
theorem State.reached_iff_of_withinWindow {s : State} {m : Word}
    (h : withinWindow s.clock.count (some m)) :
    s.reached (some m) = true ↔ s.clock.state = .running ∧ s.clock.count = m := by
  have hm : (m - s.clock.count).toNat ≤ 65535 := h m rfl
  rw [State.reached_some_iff]
  exact and_congr_right fun _ => by bv_omega

theorem State.not_reached_markAt (s : State) {offset : Half} (h : offset ≠ 0) :
    s.reached (some (markAt s.clock.count offset)) = false := by
  rw [Bool.eq_false_iff, ne_eq, State.reached_iff_of_withinWindow (withinWindow_markAt _ _)]
  exact fun ⟨_, hcount⟩ => markAt_ne_count _ h hcount

/-! ### Marks due (R73, log 3) -/

theorem LeaseCell.any_marks_iff {c : LeaseCell} {f : Option Word → Bool} : c.marks.any f = true ↔
    ∃ r, c.record = some r ∧ (f r.expiry = true ∨ f r.warn = true ∨ f r.wait = true) := by
  unfold LeaseCell.marks
  cases c.record <;> simp

theorem SessionCell.any_marks_iff {c : SessionCell} {f : Option Word → Bool} : c.marks.any f = true ↔
    ∃ x, c.session = some x ∧ (f x.expiry = true ∨ f x.warn = true) := by
  unfold SessionCell.marks
  cases c.session <;> simp

theorem State.markDue_iff {s : State} : s.markDue = true ↔
    (∃ l r, s.record l = some r ∧
      (s.reached r.expiry = true ∨ s.reached r.warn = true ∨ s.reached r.wait = true)) ∨
    ∃ i x, s.session i = some x ∧ (s.reached x.expiry = true ∨ s.reached x.warn = true) := by
  simp only [State.markDue, Bool.or_eq_true, any_toList_iff, LeaseCell.any_marks_iff,
    SessionCell.any_marks_iff]
  rfl

/-- Settles O60: where marks are set, which counts reach them, and what makes one due. -/
theorem marksAreSetAheadAndReachedByTheCount : Obligations.MarksAreSetAheadAndReachedByTheCount := by
  refine ⟨markAt_toNat, fun count term lead h0 hlt => ⟨_, warnMark_of_lt count h0 hlt, ?_⟩,
    fun count term lead h => warnMark_eq_none count h, State.reached_none,
    fun s m => State.reached_some_iff, fun s offset h => s.not_reached_markAt h,
    fun s m h => State.reached_iff_of_withinWindow ?_, fun s => State.markDue_iff⟩
  · have hdiff : (term - lead).toNat = term.toNat - lead.toNat := by bv_omega
    rw [markAt_toNat, hdiff]
  · rintro w ⟨⟩
    exact h

end Sys2Proof.Machine
end

section
/-! SUPPORT. The lease clock: its commands and its tick. -/

namespace Sys2Proof.Machine

/-! ### CLOCK START, CLOCK STOP and the tick (R66 to R68) -/

/-- CLOCK START leads to RUNNING, and in RUNNING it changes nothing (R67). -/
theorem Clock.start_eq (c : Clock) :
    c.start = if c.state = .running then c else { c with state := .running, periods := 0 } := by
  unfold Clock.start
  cases hc : c.state <;> simp

/-- CLOCK STOP leads to STOPPED, and in STOPPED it changes nothing (R68). -/
theorem Clock.stop_eq (c : Clock) :
    c.stop = if c.state = .stopped then c else { c with state := .stopped, periods := 0 } := by
  unfold Clock.stop
  cases hc : c.state <;> simp

theorem Clock.start_fields (c : Clock) : c.start.fields = wordBytes c.count ++ [1, natByte c.divider] := by
  rw [Clock.start_eq]
  split
  · next hc => simp only [Clock.fields, hc, ClockState.code]
  · rfl

theorem Clock.stop_fields (c : Clock) : c.stop.fields = wordBytes c.count ++ [0, natByte c.divider] := by
  rw [Clock.stop_eq]
  split
  · next hc => simp only [Clock.fields, hc, ClockState.code]
  · rfl

theorem exec_clockStart {s : State} (h : s.nextTake = some (4, ⟨Code.clockStart, []⟩)) :
    exec .clockStart s = .next ({ s with clock := s.clock.start }.answer 4 Code.clockStart .ok
      (wordBytes s.clock.count ++ [1, natByte s.clock.divider])) := by
  rw [← Clock.start_fields]
  exact congrArg _ (State.management_answers h rfl rfl)

theorem exec_clockStop {s : State} (h : s.nextTake = some (4, ⟨Code.clockStop, []⟩))
    (hdue : s.markDue = false) :
    exec .clockStop s = .next ({ s with clock := s.clock.stop }.answer 4 Code.clockStop .ok
      (wordBytes s.clock.count ++ [0, natByte s.clock.divider])) := by
  rw [← Clock.stop_fields]
  simp only [exec, execClockStop, hdue, Bool.false_and, Bool.false_eq_true, if_false]
  exact congrArg _ (State.management_answers h rfl rfl)

/-- The clock does not stop before the marks of its last tick are taken (R68, R73; log 3). -/
theorem exec_clockStop_due {s : State} (h : s.nextTake = some (4, ⟨Code.clockStop, []⟩))
    (hdue : s.markDue = true) : exec .clockStop s = .next s := by
  have hstop : s.stopIsNext = true := by simp [State.stopIsNext, h]
  simp only [exec, execClockStop, hdue, hstop, Bool.and_self, if_true]

theorem execTick_stopped {s : State} (h : s.clock.state = .stopped) (periods : Nat) :
    execTick periods s = .next s := by
  simp only [execTick, h]

/-- Settles O31: the two commands move the clock, and the tick counts while no mark is due. -/
theorem clockRunsInTicks : Obligations.ClockRunsInTicks := by
  refine ⟨fun s h => ?_, fun s h => ⟨fun hdue => ?_, exec_clockStop_due h⟩, fun s periods =>
    ⟨fun hstop => execTick_stopped hstop periods, fun hrun hdue hfew => ?_, fun hrun hdue hfull => ?_,
      fun hdue => execTick_due hdue periods⟩⟩
  · rw [← Clock.start_eq]
    exact exec_clockStart h
  · rw [← Clock.stop_eq]
    exact exec_clockStop h hdue
  · have hlt : s.clock.periods + periods < s.clock.periodsPerTick := hfew
    rw [exec, execTick_running hrun hdue, if_pos hlt]
  · have hge : ¬ s.clock.periods + periods < s.clock.periodsPerTick := Nat.not_lt.2 hfull
    rw [exec, execTick_running hrun hdue, if_neg hge]

/-! ### SET CLOCK (R69) -/

theorem natByte_of_toNat {b : Byte} {n : Nat} (h : n = b.toNat) : natByte n = b := by
  rw [natByte, h, BitVec.ofNat_toNat, BitVec.setWidth_eq]

/-- The table scan of SET CLOCK finds a session slot that is not VACANT. -/
theorem State.any_session_iff {s : State} :
    s.sessions.toList.any (fun c => c.session.isSome) = true ↔ ∃ i, s.session i ≠ none := by
  simp only [any_toList_iff, Option.isSome_iff_ne_none]
  rfl

section SetClock

variable {s : State} {args : List Byte} {d : Fin 8}

theorem setClock_badArg (h : 7 < (argByte args 4).toNat) (p : PortIx) :
    setClock p args s = s.refuse .badArg := by
  simp only [setClock, ranged_none h]

theorem setClock_running (hd : d.val = (argByte args 4).toNat) (hrun : s.clock.state = .running)
    (p : PortIx) : setClock p args s = s.refuse .clockRunning := by
  simp only [setClock, ranged_some hd.symm, hrun, if_true]

theorem setClock_busy (hd : d.val = (argByte args 4).toNat) (hstop : s.clock.state = .stopped)
    (hused : ∃ i, s.session i ≠ none) (p : PortIx) : setClock p args s = s.refuse .busy := by
  simp only [setClock, ranged_some hd.symm, hstop, reduceCtorEq, State.any_session_iff.2 hused,
    if_false, if_true]

theorem setClock_ok (hd : d.val = (argByte args 4).toNat) (hstop : s.clock.state = .stopped)
    (hvacant : ∀ i, s.session i = none) (p : PortIx) : setClock p args s =
      { state := { s with clock := { s.clock with count := argWord args 0, divider := d } }
        status := .ok
        fields := wordBytes (argWord args 0) ++ [argByte args 4] } := by
  have hunused : ¬ s.sessions.toList.any (fun c => c.session.isSome) = true :=
    fun hany => (State.any_session_iff.1 hany).elim fun i hi => hi (hvacant i)
  simp only [setClock, ranged_some hd.symm, hstop, reduceCtorEq, hunused, if_false, natByte_of_toNat hd]

end SetClock

/-- Settles O32: the three refusals in their order, and the clock written. -/
theorem setClockWritesAStoppedClock : Obligations.SetClockWritesAStoppedClock := by
  intro s args hnext hlen answered
  have hanswers : ∀ {a : Answer}, setClock 4 args s = a →
      exec .setClock s = .next (a.state.answer 4 Code.setClock a.status a.fields) :=
    fun hbody => congrArg _ (State.management_answers hnext hlen hbody)
  refine ⟨fun hbad => hanswers (setClock_badArg hbad 4), fun d hd => ⟨fun hrun => ?_,
    fun hstop hused => ?_, fun hstop hvacant => ?_⟩⟩
  · exact hanswers (setClock_running hd hrun 4)
  · exact hanswers (setClock_busy hd hstop hused 4)
  · exact hanswers (setClock_ok hd hstop hvacant 4)

/-! ### READ CLOCK (R70) -/

theorem ClockState.code_eq (c : ClockState) : c.code = if c = .running then 1 else 0 := by
  cases c <;> rfl

/-- Settles O33: the body answers the clock's fields and leaves the state to the answer. -/
theorem readClockReportsTheClock : Obligations.ReadClockReportsTheClock := by
  intro s p hnext
  rw [← ClockState.code_eq]
  exact congrArg _ (State.command_answers hnext rfl rfl)

end Sys2Proof.Machine
end

section
/-! SUPPORT. RENEW, by the state of its record. -/

namespace Sys2Proof.Machine

/-! ### The renewed record (R79, R80) -/

theorem limitReached_iff {q : Policy} {r : LeaseRecord} :
    limitReached q r = true ↔ q.renewLimit ≠ 0 ∧ r.renewCount = q.renewLimit := by
  simp [limitReached]

theorem LeaseRecord.renewed_notice_none {r : LeaseRecord} (h : r.notice = none) (q : Policy)
    (count : Word) : (r.renewed q count).notice = none := by
  rw [LeaseRecord.renewed, h, Option.filter_none]

/-- A pending WARNING goes and any other notice stays (R80). -/
theorem LeaseRecord.renewed_notice_some {r : LeaseRecord} {n : Notice} (h : r.notice = some n)
    (q : Policy) (count : Word) :
    (r.renewed q count).notice = if n.kind = .warning then none else some n := by
  by_cases hn : n.kind = .warning <;> simp [LeaseRecord.renewed, h, hn]

/-- The presence byte of one field is its yes or no byte (R176, R177). -/
theorem presence_singleton (b : Bool) : presence [b] = boolByte b := by
  cases b <;> rfl

/-! ### RENEW (R78) -/

section Renew

variable {s : State} {p : PortIx} {args : List Byte} {i : SessSlot} {x : Session} {l : LeaseSlot}
  {r : LeaseRecord} (hsession : s.namesSession p args i x) (halive : x.alive)
  (hlease : s.namesLease args 3 i l r)

include hsession halive hlease

theorem renew_waiting (hst : r.state = .waiting) : renew p args s = s.refuse .notHeld := by
  simp only [renew, State.checkHandles_ok hsession (.inl halive) hlease, hst]

theorem renew_ended (hst : r.state = .ended) : renew p args s = s.refuse .ended := by
  simp only [renew, State.checkHandles_ok hsession (.inl halive) hlease, hst]

/-- A record that holds its resource comes to the check of its renewal limit (R79). -/
theorem renew_held {e : Entry} (hst : r.state = .active ∨ r.state = .warned)
    (he : s.entry r.resource = some e) : renew p args s =
      if limitReached e.current r then s.refuse .limit
      else
        { state := s.setRecord l (some (r.renewed e.current s.clock.count))
          status := .ok
          fields := presence [(r.renewed e.current s.clock.count).warn.isSome] ::
            optWordBytes (r.renewed e.current s.clock.count).expiry ++
            optWordBytes (r.renewed e.current s.clock.count).warn ++
            [(r.renewed e.current s.clock.count).renewCount] } := by
  rcases hst with hst | hst <;>
    simp only [renew, State.checkHandles_ok hsession (.inl halive) hlease, hst, he]

end Renew

/-- Settles O24: the refusals by the record's state and its limit, and the record renewed. -/
theorem renewSetsNewMarks : Obligations.RenewSetsNewMarks := by
  intro s p args i x l r hnext hlen hsession halive hlease answered
  have hanswers : ∀ {a : Answer}, renew p args s = a →
      exec .renew s = .next (a.state.answer p Code.renew a.status a.fields) :=
    fun hbody => congrArg _ (State.command_answers hnext hlen hbody)
  refine ⟨fun hst => hanswers (renew_waiting hsession halive hlease hst),
    fun hst => hanswers (renew_ended hsession halive hlease hst), fun e hst he => ?_⟩
  have hheld := hanswers (renew_held hsession halive hlease hst he)
  refine ⟨fun hlimit => ?_, fun hlimit => ?_⟩
  · rw [if_pos (limitReached_iff.2 hlimit)] at hheld
    exact hheld
  · rw [if_neg (mt limitReached_iff.1 hlimit), presence_singleton] at hheld
    intro expiry warn renewals
    refine hheld.trans ?_
    have hrenewed : r.renewed e.current s.clock.count =
        { r with
          state := .active
          expiry := some expiry
          warn := warn
          renewCount := renewals
          notice := (r.renewed e.current s.clock.count).notice } := rfl
    rw [hrenewed]
    cases hn : r.notice with
    | none => rw [LeaseRecord.renewed_notice_none hn]; rfl
    | some n => rw [LeaseRecord.renewed_notice_some hn]; rfl

end Sys2Proof.Machine
end

section
/-! SUPPORT. The lapse of a session at its expiry mark, and the walk over its records. -/

namespace Sys2Proof.Machine

/-! ### The walk (R95) -/

section Walk

variable {s : State} {l : LeaseSlot} {r : LeaseRecord} {lines : BusLines}

theorem State.teardown_cons (rest : List LeaseSlot) : s.teardown (l :: rest) lines =
    (State.teardownRecord lines s l).teardown rest lines := rfl

/-- A live EXCLUSIVE record leaves the tables and is revoked at its resource. -/
theorem State.teardownRecord_exclusive (hr : s.record l = some r) (hm : r.mode = .exclusive)
    (hst : r.state = .active ∨ r.state = .warned) :
    State.teardownRecord lines s l = (s.vacateRecord l).revokeExclusive r.resource lines := by
  simp only [State.teardownRecord, hr, LeaseRecord.live_iff.2 hst, hm, decide_true, Bool.and_self,
    if_true]

/-- Every other record is freed. -/
theorem State.teardownRecord_other (hr : s.record l = some r)
    (h : r.mode = .shared ∨ r.state = .waiting ∨ r.state = .ended) :
    State.teardownRecord lines s l = s.freeRecord l := by
  have hother : (r.live && r.mode = .exclusive) = false := by
    rcases h with h | h | h <;> simp [LeaseRecord.live, h]
  simp only [State.teardownRecord, hr, hother, Bool.false_eq_true, if_false]

end Walk

/-! ### The lapse (R96) -/

theorem State.dropSessionMarks_eq {s : State} {i : SessSlot} {x : Session} (hx : s.session i = some x) :
    s.dropSessionMarks i = s.setSession i (some { x with expiry := none, warn := none }) := by
  simp only [State.dropSessionMarks, State.modifySession, hx]

theorem exec_sessionLapse {s : State} {i : SessSlot} {x : Session} (hx : s.session i = some x)
    (halive : x.alive) (hm : s.reached x.expiry = true) (lines : BusLines) :
    exec (.sessionLapse i lines) s =
      .next ((s.lapse i x .expired lines).setSession i (some (x.lapsedBy .expired))) := by
  have hst : x.state ≠ .lapsed := halive
  simp only [exec, execSessionLapse, hx, hst, ne_eq, not_false_eq_true, decide_true, hm, Bool.and_self,
    if_true]

theorem exec_sessionLapse_idle {s : State} {i : SessSlot}
    (h : ∀ x, s.session i = some x → s.reached x.expiry = false) (lines : BusLines) :
    exec (.sessionLapse i lines) s = .next s := by
  simp only [exec, execSessionLapse]
  cases hx : s.session i with
  | none => rfl
  | some x => simp only [h x hx, Bool.and_false, Bool.false_eq_true, if_false]

/-- Settles O20: the event with its mark reached and not reached, and the walk record by record. -/
theorem sessionLapsesAtItsExpiryMark : Obligations.SessionLapsesAtItsExpiryMark := by
  refine ⟨fun s i x lines hx halive hm => ?_, fun s i lines h => exec_sessionLapse_idle h lines,
    fun s lines => rfl, fun s l rest lines r hr => ⟨fun hmode hst => ?_, fun h => ?_, fun x hx => ?_⟩⟩
  · rw [exec_sessionLapse hx halive hm, State.lapse, State.dropSessionMarks_eq hx, Session.lapsedBy]
  · rw [State.teardown_cons, State.teardownRecord_exclusive hr hmode hst]
  · rw [State.teardown_cons, State.teardownRecord_other hr h]
  · exact State.vacateRecord_eq hr hx

end Sys2Proof.Machine
end

section
/-! SUPPORT. The session commands: OPEN SESSION, KEEPALIVE, CLOSE SESSION and PURGE SESSION. -/

namespace Sys2Proof.Machine

/-! ### PURGE SESSION (R99) -/

section Purge

variable {s : State} {args : List Byte} {i : SessSlot} (lines : BusLines) (p : PortIx)

theorem purgeSession_badArg (h : 15 < (argByte args 0).toNat) :
    purgeSession lines p args s = s.refuse .badArg := by
  simp only [purgeSession, ranged_none (show 16 ≤ (argByte args 0).toNat from h)]

theorem purgeSession_vacant (hi : (argByte args 0).toNat = i.val) (hx : s.session i = none) :
    purgeSession lines p args s = s.refuse .badState := by
  simp only [purgeSession, ranged_some hi, hx]

/-- A session in use is torn down first when it is alive, and its slot goes VACANT. -/
theorem purgeSession_used (hi : (argByte args 0).toNat = i.val) {x : Session}
    (hx : s.session i = some x) : purgeSession lines p args s =
      { state := (if x.state = .lapsed then s else s.lapse i x .purged lines).setSession i none
        status := .ok
        fields := [] } := by
  simp only [purgeSession, ranged_some hi, hx]
  split <;> rfl

end Purge

/-- Settles O19: the two refusals, and the slot freed with the lapse of a live session before it. -/
theorem purgeSessionLapsesAndFreesTheSlot : Obligations.PurgeSessionLapsesAndFreesTheSlot := by
  intro s lines args hnext hlen slot
  have hanswers : ∀ {a : Answer}, purgeSession lines 4 args s = a →
      exec (.purgeSession lines) s = .next (a.state.answer 4 Code.purgeSession a.status a.fields) :=
    fun hbody => congrArg _ (State.management_answers hnext hlen hbody)
  refine ⟨fun hbad => hanswers (purgeSession_badArg lines 4 hbad), fun i hi =>
    ⟨fun hx => hanswers (purgeSession_vacant lines 4 hi.symm hx), fun x hx => ?_⟩⟩
  have hused := hanswers (purgeSession_used lines 4 hi.symm hx)
  refine ⟨fun halive => ?_, fun hlapsed => ?_⟩
  · rw [if_neg halive, State.lapse, State.dropSessionMarks_eq hx] at hused
    exact hused
  · rw [if_pos (not_not.1 hlapsed)] at hused
    exact hused

/-! ### CLOSE SESSION (R93, R94) -/

section Close

variable {s : State} {p : PortIx} {args : List Byte} {i : SessSlot} {x : Session}
  (hsession : s.namesSession p args i x)

include hsession

theorem closeSession_alive (halive : x.alive) : closeSession p args s =
    { state := (s.releaseAll x.records).setSession i none, status := .ok, fields := [] } := by
  simp only [closeSession, State.checkHandle_ok hsession (.inr rfl)]
  exact if_neg halive

theorem closeSession_lapsed (hlapsed : x.state = .lapsed) : closeSession p args s =
    { state := s.setSession i none, status := .lapsed, fields := [] } := by
  simp only [closeSession, State.checkHandle_ok hsession (.inr rfl), hlapsed, if_true]

end Close

/-- Settles O18: the answer of a live session, after its walk, and of a LAPSED one. -/
theorem closeSessionFreesTheRecordsAndTheSlot : Obligations.CloseSessionFreesTheRecordsAndTheSlot := by
  intro s p args i x hnext hlen hsession
  exact ⟨fun halive => congrArg _
      (State.command_answers hnext hlen (closeSession_alive hsession halive)),
    fun hlapsed => congrArg _
      (State.command_answers hnext hlen (closeSession_lapsed hsession (not_not.1 hlapsed)))⟩

/-! ### KEEPALIVE (R89) -/

theorem keepalive_alive {s : State} {p : PortIx} {args : List Byte} {i : SessSlot} {x : Session}
    (hsession : s.namesSession p args i x) (halive : x.alive) : keepalive p args s =
      { state := s.setSession i (some (x.keptAlive s.clock.count))
        status := .ok
        fields := boolByte (warnMark s.clock.count x.term x.warnLead).isSome ::
          wordBytes (markAt s.clock.count x.term) ++
          wordBytes ((warnMark s.clock.count x.term x.warnLead).getD 0) } := by
  simp only [keepalive, State.checkHandle_ok hsession (.inl halive), presence_singleton,
    Session.keptAlive, optWordBytes, Option.getD_some]

/-- Settles O17: the session that passes its handle check is kept alive. -/
theorem keepaliveSetsNewMarks : Obligations.KeepaliveSetsNewMarks := by
  intro s p args i x hnext hlen hsession halive warn
  exact congrArg _ (State.command_answers hnext hlen (keepalive_alive hsession halive))

/-! ### The operands of OPEN SESSION (R86 step 1) -/

theorem decodeNoticeMode_eq_none {b : Byte} (h : 1 < b.toNat) : decodeNoticeMode b = none := by
  have h0 : b ≠ 0 := by bv_omega
  have h1 : b ≠ 1 := by bv_omega
  simp only [decodeNoticeMode, h0, h1, if_false]

theorem decodeNoticeMode_eq_some {b : Byte} (h : b.toNat ≤ 1) :
    decodeNoticeMode b = some (if b = 0 then .fetchRetires else .ackRequired) := by
  have h01 : b = 0 ∨ b = 1 := by bv_omega
  rcases h01 with rfl | rfl <;> rfl

theorem decodeOpen_bad {args : List Byte} (h : argHalf args 0 = 0 ∨ 7 < (argByte args 4).toNat ∨
    1 < (argByte args 5).toNat ∨ 128 < (argByte args 6).toNat) : decodeOpen args = none := by
  unfold decodeOpen
  split
  · next prio mode hprio hmode =>
    refine if_pos ?_
    rcases h with hterm | hbad | hbad | hquota
    · exact .inl hterm
    · rw [ranged_none hbad] at hprio
      cases hprio
    · rw [decodeNoticeMode_eq_none hbad] at hmode
      cases hmode
    · exact .inr hquota
  · rfl

theorem decodeOpen_ok {args : List Byte} {prio : Priority} (hterm : argHalf args 0 ≠ 0)
    (hprio : prio.val = (argByte args 4).toNat) (hmode : (argByte args 5).toNat ≤ 1)
    (hquota : (argByte args 6).toNat ≤ 128) : decodeOpen args = some
      { term := argHalf args 0
        warnLead := argHalf args 2
        warnPriority := prio
        noticeMode := if argByte args 5 = 0 then .fetchRetires else .ackRequired
        quota := if (argByte args 6).toNat = 0 then 16 else (argByte args 6).toNat } := by
  simp only [decodeOpen, ranged_some hprio.symm, decodeNoticeMode_eq_some hmode]
  exact if_neg (not_or.2 ⟨hterm, Nat.not_lt.2 hquota⟩)

/-! ### OPEN SESSION (R86 to R88) -/

section OpenSession

variable {s : State} {args : List Byte} {a : OpenArgs} (p : PortIx)

theorem openSession_badArg (h : decodeOpen args = none) :
    openSession p args s = s.refuse .badArg := by
  simp only [openSession, h]

theorem openSession_full (h : decodeOpen args = some a) (hfull : ∀ i, s.session i ≠ none) :
    openSession p args s = s.refuse .sessionsFull := by
  have hnone : lowest 16 (fun i => (s.session i).isNone) = none :=
    lowest_none_iff.2 fun i => Option.isNone_eq_false_iff.2 (Option.isSome_iff_ne_none.2 (hfull i))
  simp only [openSession, h, hnone]

theorem openSession_vacant (h : decodeOpen args = some a) {i : SessSlot}
    (hi : isLowest (fun j => s.session j = none) i) : openSession p args s =
      { state := s.setSessionCell i
          { tag := (s.sessionCell i).tag + 1, session := some (newSession p a s.clock.count) }
        status := .ok
        fields := natByte i :: halfBytes ((s.sessionCell i).tag + 1) ++
          [boolByte (warnMark s.clock.count a.term a.warnLead).isSome] ++
          wordBytes (markAt s.clock.count a.term) ++
          wordBytes ((warnMark s.clock.count a.term a.warnLead).getD 0) ++ [natByte a.quota] } := by
  have hlowest : lowest 16 (fun j => (s.session j).isNone) = some i :=
    lowest_some_iff.2 (by simpa using hi)
  simp only [openSession, h, hlowest, presence_singleton, newSession, optWordBytes, Option.getD_some]

end OpenSession

/-- Settles O16: the two refusals in their order, and the session opened in the lowest VACANT slot. -/
theorem openSessionTakesTheLowestVacantSlot : Obligations.OpenSessionTakesTheLowestVacantSlot := by
  intro s p args hnext hlen term lead quota bad
  have hanswers : ∀ {a : Answer}, openSession p args s = a →
      exec .openSession s = .next (a.state.answer p Code.openSession a.status a.fields) :=
    fun hbody => congrArg _ (State.command_answers hnext hlen hbody)
  have hdecode : ¬ bad → ∀ prio : Priority, prio.val = (argByte args 4).toNat → decodeOpen args = some
      { term := term
        warnLead := lead
        warnPriority := prio
        noticeMode := if argByte args 5 = 0 then .fetchRetires else .ackRequired
        quota := if quota = 0 then 16 else quota } := by
    intro hok prio hprio
    simp only [bad, not_or, Nat.not_lt] at hok
    obtain ⟨hterm, -, hmode, hquota⟩ := hok
    exact decodeOpen_ok hterm hprio hmode hquota
  refine ⟨fun hbad => hanswers (openSession_badArg p (decodeOpen_bad hbad)), fun hok hfull => ?_,
    fun hok i prio hi hprio => hanswers (openSession_vacant p (hdecode hok prio hprio) hi)⟩
  have hprio : (argByte args 4).toNat < 8 := by
    by_contra hge
    exact hok (.inr (.inl (Nat.not_lt.1 hge)))
  exact hanswers (openSession_full p (hdecode hok ⟨_, hprio⟩ rfl) hfull)

end Sys2Proof.Machine
end

section
/-! SUPPORT. The notice that FETCH NOTICE selects. -/

namespace Sys2Proof.Machine

/-! ### The record notice that is selected (R148) -/

/-- The notice pending in lease slot `l`, with its record. -/
def State.noticeAt (s : State) (l : LeaseSlot) : Option (LeaseSlot × LeaseRecord × Notice) :=
  (s.record l).bind fun r => r.notice.map fun n => (l, r, n)

/-- The rank of a record's notice in the order of R148: its priority, and then the lower lease slot. -/
def noticeRank (c : LeaseSlot × LeaseRecord × Notice) : Priority ×ₗ LeaseSlotᵒᵈ :=
  toLex (c.2.2.priority, OrderDual.toDual c.1)

theorem noticeRank_lt_iff {l l' : LeaseSlot} {r r' : LeaseRecord} {n n' : Notice} :
    noticeRank (l', r', n') < noticeRank (l, r, n) ↔
      n'.priority < n.priority ∨ (n'.priority = n.priority ∧ l < l') :=
  Prod.Lex.toLex_lt_toLex

theorem noticeRank_le_iff {l l' : LeaseSlot} {r r' : LeaseRecord} {n n' : Notice} :
    noticeRank (l', r', n') ≤ noticeRank (l, r, n) ↔
      n'.priority < n.priority ∨ (n'.priority = n.priority ∧ l ≤ l') :=
  Prod.Lex.toLex_le_toLex

section Select

variable {s : State} {l k : LeaseSlot} {r : LeaseRecord} {n : Notice} {x : Session}
  {records : List LeaseSlot} {b c : LeaseSlot × LeaseRecord × Notice}

theorem State.noticeAt_eq_some_iff :
    s.noticeAt k = some (l, r, n) ↔ k = l ∧ s.record l = some r ∧ r.notice = some n := by
  simp only [State.noticeAt, Option.bind_eq_some_iff, Option.map_eq_some_iff, Prod.mk.injEq]
  constructor
  · rintro ⟨r, hr, n, hn, rfl, rfl, rfl⟩
    exact ⟨rfl, hr, hn⟩
  · rintro ⟨rfl, hr, hn⟩
    exact ⟨r, hr, n, hn, rfl, rfl, rfl⟩

/-- The notices pending in the records of a list. -/
theorem State.mem_noticesAt : (l, r, n) ∈ records.filterMap s.noticeAt ↔
    l ∈ records ∧ s.record l = some r ∧ r.notice = some n := by
  simp only [List.mem_filterMap, State.noticeAt_eq_some_iff]
  exact ⟨fun ⟨_, hk, hkl, h⟩ => ⟨hkl ▸ hk, h⟩, fun ⟨hl, h⟩ => ⟨l, hl, rfl, h⟩⟩

theorem State.betterNotice_idle (h : s.noticeAt k = none)
    (best : Option (LeaseSlot × LeaseRecord × Notice)) : s.betterNotice best k = best := by
  unfold State.noticeAt at h
  unfold State.betterNotice
  cases hr : s.record k with
  | none => rfl
  | some r =>
    have hn : r.notice = none := by simpa [hr] using h
    simp only [hn]

theorem State.betterNotice_first (h : s.noticeAt k = some c) : s.betterNotice none k = some c := by
  obtain ⟨l, r, n⟩ := c
  obtain ⟨rfl, hr, hn⟩ := State.noticeAt_eq_some_iff.1 h
  simp only [State.betterNotice, hr, hn]

theorem State.betterNotice_later (h : s.noticeAt k = some c) :
    s.betterNotice (some b) k = if noticeRank b < noticeRank c then some c else some b := by
  obtain ⟨l, r, n⟩ := c
  obtain ⟨lb, rb, nb⟩ := b
  obtain ⟨rfl, hr, hn⟩ := State.noticeAt_eq_some_iff.1 h
  simp only [State.betterNotice, hr, hn, noticeRank_lt_iff]

/-- The walk over a record list keeps the notice of highest rank. -/
theorem State.bestRecordNotice_eq_argmax (s : State) (records : List LeaseSlot) :
    s.bestRecordNotice records = (records.filterMap s.noticeAt).argmax noticeRank := by
  induction records using List.reverseRecOn with
  | nil => rfl
  | append_singleton records k ih =>
    have hwalk : s.bestRecordNotice (records ++ [k]) =
        s.betterNotice (s.bestRecordNotice records) k := List.foldl_concat ..
    rw [hwalk, ih, List.filterMap_append]
    cases hk : s.noticeAt k with
    | none => simp [State.betterNotice_idle hk, hk]
    | some c =>
      rw [List.filterMap_cons_some hk, List.filterMap_nil, List.argmax_concat]
      cases (records.filterMap s.noticeAt).argmax noticeRank with
      | none => exact State.betterNotice_first hk
      | some b => exact State.betterNotice_later hk

theorem State.bestRecordNotice_eq_none_iff : s.bestRecordNotice records = none ↔
    ∀ l r, l ∈ records → s.record l = some r → r.notice = none := by
  rw [State.bestRecordNotice_eq_argmax, List.argmax_eq_none, List.eq_nil_iff_forall_not_mem]
  constructor
  · intro h l r hl hr
    exact Option.eq_none_iff_forall_ne_some.2 fun n hn => h _ (State.mem_noticesAt.2 ⟨hl, hr, hn⟩)
  · rintro h ⟨l, r, n⟩ hmem
    obtain ⟨hl, hr, hn⟩ := State.mem_noticesAt.1 hmem
    exact absurd (hn.symm.trans (h l r hl hr)) (Option.some_ne_none n)

theorem State.bestRecordNotice_pending (h : s.bestRecordNotice records = some (l, r, n)) :
    l ∈ records ∧ s.record l = some r ∧ r.notice = some n := by
  rw [State.bestRecordNotice_eq_argmax] at h
  exact State.mem_noticesAt.1 (List.argmax_mem h)

theorem State.bestRecordNotice_highest (h : s.bestRecordNotice records = some (l, r, n))
    {l' : LeaseSlot} {r' : LeaseRecord} {n' : Notice} (hl : l' ∈ records)
    (hr : s.record l' = some r') (hn : r'.notice = some n') :
    n'.priority < n.priority ∨ (n'.priority = n.priority ∧ l ≤ l') := by
  rw [State.bestRecordNotice_eq_argmax] at h
  exact noticeRank_le_iff.1 (List.le_of_mem_argmax (State.mem_noticesAt.2 ⟨hl, hr, hn⟩) h)

/-! ### The session's own notice and the record notices (R148) -/

theorem State.selectNotice_eq_none_iff :
    s.selectNotice x = none ↔ x.notice = none ∧ s.bestRecordNotice x.records = none := by
  unfold State.selectNotice
  cases x.notice with
  | none => cases s.bestRecordNotice x.records <;> simp
  | some own =>
    cases s.bestRecordNotice x.records with
    | none => simp
    | some best =>
      simp only
      split <;> simp

theorem State.selectNotice_eq_session_iff {k : SessionNotice} :
    s.selectNotice x = some (.session k) ↔ x.notice = some k ∧
      ∀ l r n, s.bestRecordNotice x.records = some (l, r, n) → n.priority ≤ x.noticePriority k := by
  unfold State.selectNotice
  cases x.notice with
  | none => cases s.bestRecordNotice x.records <;> simp
  | some own =>
    cases s.bestRecordNotice x.records with
    | none => simp
    | some best =>
      obtain ⟨l, r, n⟩ := best
      by_cases hlt : x.noticePriority own < n.priority
      · simp only [hlt, if_true]
        refine iff_of_false nofun ?_
        rintro ⟨⟨⟩, hmax⟩
        exact absurd (hmax l r n rfl) (not_le.2 hlt)
      · simp only [hlt, if_false, Option.some.injEq, Selected.session.injEq]
        refine (and_iff_left_of_imp ?_).symm
        rintro rfl _ _ _ ⟨⟩
        exact not_lt.1 hlt

theorem State.selectNotice_eq_record_iff :
    s.selectNotice x = some (.record l r n) ↔ s.bestRecordNotice x.records = some (l, r, n) ∧
      ∀ k, x.notice = some k → x.noticePriority k < n.priority := by
  unfold State.selectNotice
  cases s.bestRecordNotice x.records with
  | none => cases x.notice <;> simp
  | some best =>
    obtain ⟨lb, rb, nb⟩ := best
    cases x.notice with
    | none => simp
    | some own =>
      by_cases hlt : x.noticePriority own < nb.priority
      · simp only [hlt, if_true, Option.some.injEq, Selected.record.injEq, Prod.mk.injEq]
        refine (and_iff_left_of_imp ?_).symm
        rintro ⟨-, -, rfl⟩ _ rfl
        exact hlt
      · simp only [hlt, if_false]
        refine iff_of_false nofun ?_
        rintro ⟨⟨⟩, hown⟩
        exact hlt (hown own rfl)

end Select

/-- Settles O34: the record notice of highest rank, weighed against the session's own. -/
theorem fetchSelectsTheHighestPriority : Obligations.FetchSelectsTheHighestPriority := by
  refine ⟨fun x => ⟨rfl, rfl⟩, fun s x => ⟨?_, fun k hk => ?_, fun l r n hn => ?_⟩⟩
  · rw [State.selectNotice_eq_none_iff, State.bestRecordNotice_eq_none_iff]
  · obtain ⟨hown, hmax⟩ := State.selectNotice_eq_session_iff.1 hk
    refine ⟨hown, fun l r n hl hr hn => ?_⟩
    cases hbest : s.bestRecordNotice x.records with
    | none =>
      have hnone := State.bestRecordNotice_eq_none_iff.1 hbest l r hl hr
      exact absurd (hn.symm.trans hnone) (Option.some_ne_none n)
    | some best =>
      obtain ⟨lb, rb, nb⟩ := best
      have hle : n.priority ≤ nb.priority :=
        (State.bestRecordNotice_highest hbest hl hr hn).elim le_of_lt fun h => h.1.le
      exact hle.trans (hmax lb rb nb hbest)
  · obtain ⟨hbest, hown⟩ := State.selectNotice_eq_record_iff.1 hn
    obtain ⟨hl, hr, hnotice⟩ := State.bestRecordNotice_pending hbest
    exact ⟨hl, hr, hnotice, hown, fun l' r' n' hl' hr' hn' =>
      State.bestRecordNotice_highest hbest hl' hr' hn'⟩

end Sys2Proof.Machine
end

section
/-! SUPPORT. The laws of the fence queue: the part of the state of which they speak, the operations that
leave that part as it is, and what a job that enters, starts, fails or leaves does to them. -/

namespace Sys2Proof.Machine

/-! ### What the laws speak of (R107 to R109, R125) -/

/-- Whether a slot holds a FENCING entry. -/
def fences (e : Option Entry) : Bool := e.any fun e => e.state = .fencing

theorem fences_iff {e : Option Entry} : fences e = true ↔ ∃ f, e = some f ∧ f.state = .fencing := by
  simp only [fences, Option.any_eq_true, decide_eq_true_eq]

/-- The part of the state of which the laws of the fence queue speak. -/
def State.fenceView (s : State) :
    (DirSlot → Bool) × List FenceJob × BusState × Option BusSpeed × Option Attempt :=
  (fun i => fences (s.entry i), s.fenceQueue, s.bus.state, s.bus.runSpeed, s.bus.attempt)

/-- The laws of the queue alone (R107, R108). -/
structure State.QueueLaws (s : State) : Prop where
  once : (s.fenceQueue.map FenceJob.resource).Nodup
  fencing : ∀ i, i ∈ s.fenceQueue.map FenceJob.resource ↔ fences (s.entry i) = true
  shaped : ∀ j, j ∈ s.fenceQueue → j.shaped
  waiting : ∀ j, j ∈ s.fenceQueue.tail → j.state = .queued ∧ j.attempts = 0

/-- The head of the queue, if there is one, has not started or has failed with attempts left. -/
def State.headWaits (s : State) : Prop := ∀ j, s.fenceQueue.head? = some j → j.state = .queued

theorem State.fenceLaws_iff (s : State) : s.fenceLaws ↔ s.QueueLaws ∧ s.busFits := by
  simp only [State.fenceLaws, ← fences_iff]
  constructor
  · rintro ⟨honce, hfencing, hshaped, hwaiting, hbus⟩
    exact ⟨⟨honce, hfencing, hshaped, hwaiting⟩, hbus⟩
  · rintro ⟨⟨honce, hfencing, hshaped, hwaiting⟩, hbus⟩
    exact ⟨honce, hfencing, hshaped, hwaiting, hbus⟩

theorem State.fenceLaws.queueLaws {s : State} (h : s.fenceLaws) : s.QueueLaws :=
  (s.fenceLaws_iff.1 h).1

theorem State.fenceLaws.busFits {s : State} (h : s.fenceLaws) : s.busFits := (s.fenceLaws_iff.1 h).2

theorem State.fenceLaws.congr {s t : State} (h : s.fenceLaws) (hv : t.fenceView = s.fenceView) :
    t.fenceLaws := by
  simp only [State.fenceView, Prod.mk.injEq] at hv
  obtain ⟨hentries, hqueue, hstate, hspeed, hattempt⟩ := hv
  have hentry : ∀ i, fences (t.entry i) = fences (s.entry i) := congrFun hentries
  simp only [State.fenceLaws, State.busFits, ← fences_iff] at h ⊢
  rw [hqueue, hstate, hspeed, hattempt]
  simpa only [hentry] using h

/-! ### Operations that leave them alone -/

@[simp] theorem State.fenceView_setRecord (s : State) (l : LeaseSlot) (r : Option LeaseRecord) :
    (s.setRecord l r).fenceView = s.fenceView := rfl

@[simp] theorem State.fenceView_modifySession (s : State) (i : SessSlot) (f : Session → Session) :
    (s.modifySession i f).fenceView = s.fenceView := by
  unfold State.modifySession
  split <;> rfl

@[simp] theorem State.fenceView_vacateRecord (s : State) (l : LeaseSlot) :
    (s.vacateRecord l).fenceView = s.fenceView := by
  unfold State.vacateRecord
  split
  · rfl
  · rw [State.fenceView_setRecord, State.fenceView_modifySession]

@[simp] theorem State.fenceView_endRecord (s : State) (l : LeaseSlot) (c : EndCause) :
    (s.endRecord l c).fenceView = s.fenceView := by
  unfold State.endRecord
  split <;> rfl

@[simp] theorem State.fenceView_allocate (s : State) (l : LeaseSlot) (r : LeaseRecord) :
    (s.allocate l r).fenceView = s.fenceView := by
  rw [State.allocate, State.fenceView_modifySession]
  rfl

@[simp] theorem State.fenceView_retireSession (s : State) (i : SessSlot) :
    (s.retireSession i).fenceView = s.fenceView := by
  unfold State.retireSession
  split
  · rfl
  · split <;> rfl

theorem State.fences_setEntry (s : State) (i j : DirSlot) (e : Option Entry) :
    fences ((s.setEntry i e).entry j) = if j = i then fences e else fences (s.entry j) := by
  rw [State.entry_setEntry]
  split <;> rfl

/-- A slot whose entry is FENCING after a write exactly if it was before. -/
theorem State.fenceView_setEntry {s : State} {i : DirSlot} {e : Option Entry}
    (h : fences e = fences (s.entry i)) : (s.setEntry i e).fenceView = s.fenceView := by
  have hsame : (fun j => fences ((s.setEntry i e).entry j)) = fun j => fences (s.entry j) := by
    funext j
    rw [State.fences_setEntry]
    split
    · next hj => rw [h, hj]
    · rfl
  exact congrArg (·, s.fenceQueue, s.bus.state, s.bus.runSpeed, s.bus.attempt) hsame

theorem fences_some_congr {e f : Entry} (h : f.state = e.state) : fences (some f) = fences (some e) := by
  simp only [fences, Option.any_some, h]

theorem fences_eq_false {e : Entry} (h : e.state ≠ .fencing) : fences (some e) = false := by
  simp only [fences, Option.any_some, h, decide_false]

/-- An entry replaced by one in the same state. -/
theorem State.fenceView_setEntry_same {s : State} {i : DirSlot} {e f : Entry}
    (he : s.entry i = some e) (h : f.state = e.state) :
    (s.setEntry i (some f)).fenceView = s.fenceView :=
  State.fenceView_setEntry (by rw [he, fences_some_congr h])

/-- An entry that is not FENCING replaced by another such entry. -/
theorem State.fenceView_setEntry_other {s : State} {i : DirSlot} {e f : Entry}
    (he : s.entry i = some e) (hs : e.state ≠ .fencing) (hf : f.state ≠ .fencing) :
    (s.setEntry i (some f)).fenceView = s.fenceView :=
  State.fenceView_setEntry (by rw [he, fences_eq_false hs, fences_eq_false hf])

@[simp] theorem State.fenceView_reportSpent (s : State) (i : DirSlot) :
    (s.reportSpent i).fenceView = s.fenceView := by
  unfold State.reportSpent
  split
  · rfl
  · next e he =>
    split
    · rfl
    · exact State.fenceView_setEntry_same he rfl

theorem Entry.granted_not_fencing (e : Entry) (l : LeaseSlot) (mode : LeaseMode) :
    (e.granted l mode).state ≠ .fencing := by
  cases mode <;> exact nofun

/-- The grant check serves FREE and HELD_SHARED entries only, and leaves none of them FENCING. -/
theorem grantSteps_fenceView (i : DirSlot) (q : List LeaseSlot) (s : State) :
    (grantSteps i q s).fenceView = s.fenceView := by
  induction q generalizing s with
  | nil => rfl
  | cons l rest ih =>
    rw [grantSteps]
    split
    · rfl
    · next e he =>
      split
      · next hst =>
        have hs : e.state ≠ .fencing := by rcases hst with hst | hst <;> rw [hst] <;> exact nofun
        have hgrant : ∀ r, (s.grantHead i { e with queue := rest } l r).fenceView = s.fenceView :=
          fun r => State.fenceView_setEntry_other he hs (Entry.granted_not_fencing _ l r.mode)
        have hqueue : (s.setEntry i (some { e with queue := rest })).fenceView = s.fenceView :=
          State.fenceView_setEntry_same he rfl
        split
        · rw [ih, hqueue]
        · next r _ =>
          split
          · rw [ih, hgrant]
          · split
            · rw [ih, State.endSpentHead, State.fenceView_reportSpent, State.fenceView_endRecord, hqueue]
            · split
              · exact hgrant r
              · rfl
      · rfl

@[simp] theorem State.fenceView_grantCheck (s : State) (i : DirSlot) :
    (s.grantCheck i).fenceView = s.fenceView := by
  unfold State.grantCheck
  split
  · rfl
  · exact grantSteps_fenceView _ _ _

theorem State.fences_grantCheck (s : State) (i j : DirSlot) :
    fences ((s.grantCheck i).entry j) = fences (s.entry j) :=
  congrFun (congrArg Prod.fst (s.fenceView_grantCheck i)) j

@[simp] theorem State.fenceView_leaveQueue (s : State) (i : DirSlot) (l : LeaseSlot) :
    (s.leaveQueue i l).fenceView = s.fenceView := by
  rw [State.leaveQueue, State.fenceView_grantCheck]
  unfold State.modifyEntry
  split
  · rfl
  · next e he => exact State.fenceView_setEntry_same he rfl

theorem State.fenceView_enterFree {s : State} {i : DirSlot} {e f : Entry} (he : s.entry i = some e)
    (hs : e.state ≠ .fencing) :
    ((s.setEntry i (some f.enterFree)).grantCheck i).fenceView = s.fenceView := by
  rw [State.fenceView_grantCheck]
  exact State.fenceView_setEntry_other he hs nofun

theorem State.fenceView_dropHolder {s : State} {i : DirSlot} {e : Entry} (he : s.entry i = some e)
    (hs : e.state ≠ .fencing) (l : LeaseSlot) : (s.dropHolder i l).fenceView = s.fenceView := by
  unfold State.dropHolder
  simp only [he]
  split
  · exact State.fenceView_enterFree he hs
  · exact State.fenceView_setEntry_same he rfl

/-- The entry of a live record is held, so it is not FENCING (R3). -/
theorem State.recordLaws.held {s : State} (h : s.recordLaws) {l : LeaseSlot} {r : LeaseRecord}
    (hr : s.record l = some r) (hlive : r.live = true) :
    ∃ e, s.entry r.resource = some e ∧ e.state ≠ .fencing := by
  obtain ⟨e, he⟩ := h.entry hr
  refine ⟨e, he, fun hs => ?_⟩
  cases hm : r.mode with
  | shared => exact absurd ((h.suits he).shared l r hr rfl hlive hm) (by rw [hs]; exact nofun)
  | exclusive => exact absurd ((h.suits he).exclusive l r hr rfl hlive hm).1 (by rw [hs]; exact nofun)

theorem State.entry_vacateRecord (s : State) {l : LeaseSlot} {r : LeaseRecord} (hr : s.record l = some r)
    (i : DirSlot) : (s.vacateRecord l).entry i = s.entry i :=
  State.entry_congr (s := s.setRecord l none) (s.tables_vacateRecord hr) i

theorem State.recordLaws.fenceView_freeRecord {s : State} (h : s.recordLaws) (l : LeaseSlot) :
    (s.freeRecord l).fenceView = s.fenceView := by
  unfold State.freeRecord
  split
  · rfl
  · next r hr =>
    have hdrop : r.live = true →
        ((s.vacateRecord l).dropHolder r.resource l).fenceView = s.fenceView := fun hlive => by
      obtain ⟨e, he, hs⟩ := h.held hr hlive
      rw [State.fenceView_dropHolder (by rw [s.entry_vacateRecord hr, he]) hs, State.fenceView_vacateRecord]
    cases hs : r.state with
    | waiting => simp only [State.fenceView_leaveQueue, State.fenceView_vacateRecord]
    | active => exact hdrop (LeaseRecord.live_iff.2 (.inl hs))
    | warned => exact hdrop (LeaseRecord.live_iff.2 (.inr hs))
    | ended => exact s.fenceView_vacateRecord l

theorem State.recordLaws.fenceView_retireRecord {s : State} (h : s.recordLaws) (l : LeaseSlot) :
    (s.retireRecord l).fenceView = s.fenceView := by
  unfold State.retireRecord
  split
  · rfl
  · split
    · rfl
    · exact h.fenceView_freeRecord l
    · rfl

theorem State.recordLaws.fenceView_releaseAll {s : State} (h : s.recordLaws) (records : List LeaseSlot) :
    (s.releaseAll records).fenceView = s.fenceView :=
  (foldl_preserves (fun t => t.recordLaws ∧ t.fenceView = s.fenceView) State.freeRecord
    (fun _ l ⟨hr, hv⟩ => ⟨(hr.freeRecord l).laws, (hr.fenceView_freeRecord l).trans hv⟩) records
    ⟨h, rfl⟩).2

/-! ### The start of an attempt and its failure, case by case (R109, R111, R112, R127) -/

/-- A job as its attempt starts (R109). -/
def FenceJob.started (j : FenceJob) : FenceJob := { j with attempts := j.attempts + 1, state := .inFlight }

section Start

variable {s : State} {j : FenceJob} {rest : List FenceJob} {lines : BusLines}

theorem State.startAttempt_high (hq : s.fenceQueue = j :: rest) (hj : j.state = .queued)
    (hb : s.bus.state = .idle) (hl : (lines.escl && lines.esda) = true) : s.startAttempt lines = { s with
      fenceQueue := j.started :: rest
      bus := { s.bus with
        state := .transfer, runSpeed := some s.bus.speed, attempt := some j.attempt } } := by
  simp only [State.startAttempt, hb, hq, hj, if_true, hl]
  rfl

theorem State.startAttempt_low (hq : s.fenceQueue = j :: rest) (hj : j.state = .queued)
    (hb : s.bus.state = .idle) (hl : (lines.escl && lines.esda) = false) : s.startAttempt lines =
      ({ s with
        fenceQueue := j.started :: rest
        bus := { s.bus with
          state := .recovery, runSpeed := some s.bus.speed, attempt := some j.attempt, driven := [] } } :
        State).failHead := by
  simp only [State.startAttempt, hb, hq, hj, if_true, hl, Bool.false_eq_true, if_false]
  rfl

theorem State.startAttempt_busy (hb : s.bus.state ≠ .idle) : s.startAttempt lines = s := by
  unfold State.startAttempt
  split
  · next hidle _ => exact absurd hidle hb
  · rfl

theorem State.startAttempt_empty (hq : s.fenceQueue = []) : s.startAttempt lines = s := by
  unfold State.startAttempt
  rw [hq]
  split
  · next h => cases h
  · rfl

theorem State.startAttempt_inFlight (hq : s.fenceQueue = j :: rest) (hj : j.state = .inFlight) :
    s.startAttempt lines = s := by
  unfold State.startAttempt
  rw [hq]
  split
  · next h =>
    cases h
    rw [hj, if_neg nofun]
  · rfl

theorem State.failHead_retried (hq : s.fenceQueue = j :: rest)
    (hleft : j.attempts < 1 + j.profile.retries.val) :
    s.failHead = { s with fenceQueue := { j with state := .queued } :: rest } := by
  simp only [State.failHead, hq, if_pos hleft]

theorem State.failHead_removed {e : Entry} (hq : s.fenceQueue = j :: rest)
    (hnone : 1 + j.profile.retries.val ≤ j.attempts) (he : s.entry j.resource = some e)
    (hs : e.state = .fencing) : s.failHead = (({ s with fenceQueue := rest } : State).setEntry j.resource
      (some { e with state := .fenceFailed })).raiseFenceFailed j.resource := by
  have he' : ({ s with fenceQueue := rest } : State).entry j.resource = some e := he
  simp only [State.failHead, hq, if_neg (not_lt.2 hnone), State.modifyEntry, he', hs, if_true]

theorem State.settleHead_eq {e : Entry} (hq : s.fenceQueue = j :: rest) (he : s.entry j.resource = some e)
    (hs : e.state = .fencing) : s.settleHead =
      (({ s with fenceQueue := rest } : State).setEntry j.resource (some e.enterFree)).grantCheck
        j.resource := by
  have he' : ({ s with fenceQueue := rest } : State).entry j.resource = some e := he
  simp only [State.settleHead, hq, he', hs, if_true]

end Start

/-! ### The head that changes or leaves (R110 to R112) -/

section Head

variable {s t : State} {j k : FenceJob} {rest : List FenceJob}

/-- The head replaced by a job for the same slot. -/
theorem State.QueueLaws.replaceHead (h : s.QueueLaws) (hq : s.fenceQueue = j :: rest)
    (ht : t.fenceQueue = k :: rest) (hk : k.resource = j.resource) (hs : k.shaped)
    (he : ∀ i, t.entry i = s.entry i) : t.QueueLaws := by
  obtain ⟨honce, hfencing, hshaped, hwaiting⟩ := h
  rw [hq] at honce hfencing hshaped hwaiting
  refine ⟨?_, fun i => ?_, fun x hx => ?_, fun x hx => ?_⟩ <;> rw [ht] at *
  · rwa [List.map_cons, hk, ← List.map_cons]
  · rw [he, List.map_cons, hk, ← List.map_cons, hfencing]
  · rcases List.mem_cons.1 hx with rfl | hx
    · exact hs
    · exact hshaped x (List.mem_cons_of_mem j hx)
  · exact hwaiting x hx

/-- The head removed, its entry no longer FENCING: the next job waits. -/
theorem State.QueueLaws.removeHead (h : s.QueueLaws) (hq : s.fenceQueue = j :: rest)
    (ht : t.fenceQueue = rest)
    (he : ∀ i, fences (t.entry i) = true ↔ i ≠ j.resource ∧ fences (s.entry i) = true) :
    t.QueueLaws ∧ t.headWaits := by
  obtain ⟨honce, hfencing, hshaped, hwaiting⟩ := h
  rw [hq] at honce hfencing hshaped hwaiting
  obtain ⟨hj, honce⟩ := List.nodup_cons.1 honce
  subst ht
  refine ⟨⟨honce, fun i => ?_, fun x hx => hshaped x (List.mem_cons_of_mem j hx),
    fun x hx => hwaiting x (List.mem_of_mem_tail hx)⟩,
    fun x hx => (hwaiting x (List.mem_of_mem_head? hx)).1⟩
  rw [he, ← hfencing, List.map_cons, List.mem_cons]
  exact ⟨fun hi => ⟨fun hij => hj (hij ▸ hi), .inr hi⟩, fun ⟨hne, hi⟩ => hi.resolve_left hne⟩

/-- The failure of the head job leaves a head that waits, whether it is retried or gone (R111, R112). -/
theorem State.QueueLaws.failHead (h : s.QueueLaws) : s.failHead.QueueLaws ∧ s.failHead.headWaits := by
  cases hq : s.fenceQueue with
  | nil =>
    rw [show s.failHead = s by simp only [State.failHead, hq]]
    exact ⟨h, by simp [State.headWaits, hq]⟩
  | cons j rest =>
    by_cases hleft : j.attempts < 1 + j.profile.retries.val
    · rw [State.failHead_retried hq hleft]
      refine ⟨h.replaceHead hq rfl rfl (Nat.lt_one_add_iff.1 hleft) fun _ => rfl, fun x hx => ?_⟩
      cases hx
      rfl
    · obtain ⟨e, he, hs⟩ := fences_iff.1 ((h.fencing j.resource).1 (by simp [hq]))
      rw [State.failHead_removed hq (not_lt.1 hleft) he hs]
      refine h.removeHead hq rfl fun i => ?_
      show fences ((State.setEntry _ _ _).entry i) = true ↔ _
      rw [State.fences_setEntry]
      split
      · next hi => simp [hi, fences]
      · next hi => exact (and_iff_right hi).symm

end Head

/-! ### The bus (R109, R125, R134) -/

/-- An attempt in TRANSFER is at a place of its sequence, and is the head's unless it was abandoned. -/
structure State.AttemptFits (s : State) (a : Attempt) : Prop where
  place : a.position < a.sequence.length
  abandoned : a.abandoned = true → s.headWaits
  head : a.abandoned = false → ∃ j, s.fenceQueue.head? = some j ∧ j.state = .inFlight ∧
    a = { j.attempt with position := a.position }

section BusFits

variable {s : State}

theorem State.busFits_idle (hb : s.bus.state = .idle) : s.busFits ↔
    s.bus.attempt = none ∧ s.bus.runSpeed = none ∧ s.fenceQueue = [] := by
  simp only [State.busFits, hb]

theorem State.busFits_transfer (hb : s.bus.state = .transfer) : s.busFits ↔
    ∃ a, s.bus.attempt = some a ∧ s.AttemptFits a := by
  simp only [State.busFits, hb]
  refine exists_congr fun a => and_congr_right fun _ => ?_
  cases hab : a.abandoned with
  | true => exact ⟨fun ⟨h, hw⟩ => ⟨h, fun _ => hw, by simp [hab]⟩, fun h => ⟨h.place, h.abandoned hab⟩⟩
  | false => exact ⟨fun ⟨h, hj⟩ => ⟨h, by simp [hab], fun _ => hj⟩, fun h => ⟨h.place, h.head hab⟩⟩

theorem State.busFits_recovery (hb : s.bus.state = .recovery) : s.busFits ↔ s.headWaits := by
  simp only [State.busFits, hb, State.headWaits]

end BusFits

/-- The laws of the queue and the bus where a start may be due: the controller may be IDLE with a head
that waits. -/
structure State.FenceReady (s : State) : Prop where
  queue : s.QueueLaws
  bus : s.busFits ∨
    (s.bus.state = .idle ∧ s.bus.attempt = none ∧ s.bus.runSpeed = none ∧ s.headWaits)

theorem FenceJob.shaped_started {j : FenceJob} (h : j.shaped) (hj : j.state = .queued) :
    j.started.shaped := by
  simp only [FenceJob.shaped, hj] at h
  simp only [FenceJob.shaped, FenceJob.started]
  omega

/-- The start that is due makes the laws whole (R109, R127). -/
theorem State.FenceReady.startAttempt {s : State} (h : s.FenceReady) (lines : BusLines) :
    (s.startAttempt lines).fenceLaws := by
  obtain ⟨hqueue, hfits | ⟨hb, hattempt, hspeed, hwaits⟩⟩ := h
  · have hsame : s.startAttempt lines = s := by
      by_cases hb : s.bus.state = .idle
      · exact State.startAttempt_empty ((State.busFits_idle hb).1 hfits).2.2
      · exact State.startAttempt_busy hb
    rw [hsame]
    exact s.fenceLaws_iff.2 ⟨hqueue, hfits⟩
  · cases hq : s.fenceQueue with
    | nil =>
      rw [State.startAttempt_empty hq]
      exact s.fenceLaws_iff.2 ⟨hqueue, (State.busFits_idle hb).2 ⟨hattempt, hspeed, hq⟩⟩
    | cons j rest =>
      have hj : j.state = .queued := hwaits j (by rw [hq]; rfl)
      have hshaped : j.started.shaped := FenceJob.shaped_started (hqueue.shaped j (by simp [hq])) hj
      cases hl : lines.escl && lines.esda with
      | true =>
        rw [State.startAttempt_high hq hj hb hl]
        exact (State.fenceLaws_iff _).2 ⟨hqueue.replaceHead hq rfl rfl hshaped fun _ => rfl,
          (State.busFits_transfer rfl).2 ⟨j.attempt, rfl, j.attempt.sequence_length_pos, nofun,
            fun _ => ⟨j.started, rfl, rfl, rfl⟩⟩⟩
      | false =>
        rw [State.startAttempt_low hq hj hb hl]
        obtain ⟨hlaws, hhead⟩ := State.QueueLaws.failHead
          (hqueue.replaceHead (t := { s with
            fenceQueue := j.started :: rest
            bus := { s.bus with
              state := .recovery, runSpeed := some s.bus.speed, attempt := some j.attempt
              driven := [] } }) hq rfl rfl hshaped fun _ => rfl)
        exact (State.fenceLaws_iff _).2
          ⟨hlaws, (State.busFits_recovery (by rw [State.failHead_bus])).2 hhead⟩

/-- The controller in IDLE with a head that waits: a start is due. -/
theorem State.QueueLaws.ready {s : State} (h : s.QueueLaws) (hw : s.headWaits) {b : Bus}
    {driven : List BusItem} (hb : s.bus = b.enterIdle driven) : s.FenceReady :=
  ⟨h, .inr (by rw [hb]; exact ⟨rfl, rfl, rfl, hw⟩)⟩

/-- The laws of the queue do not speak of the bus. -/
theorem State.QueueLaws.setBus {s : State} (h : s.QueueLaws) (b : Bus) :
    ({ s with bus := b } : State).QueueLaws := ⟨h.once, h.fencing, h.shaped, h.waiting⟩

/-! ### A job that joins the queue (R108) -/

theorem State.QueueLaws.append {s t : State} (h : s.QueueLaws) {j : FenceJob}
    (hj : j.state = .queued) (hn : j.attempts = 0) (hnew : fences (s.entry j.resource) = false)
    (ht : t.fenceQueue = s.fenceQueue ++ [j])
    (he : ∀ i, fences (t.entry i) = true ↔ i = j.resource ∨ fences (s.entry i) = true) : t.QueueLaws := by
  have hnot : j.resource ∉ s.fenceQueue.map FenceJob.resource := by
    rw [h.fencing, hnew]
    exact nofun
  have hmap : t.fenceQueue.map FenceJob.resource =
      s.fenceQueue.map FenceJob.resource ++ [j.resource] := by rw [ht, List.map_append]; rfl
  refine ⟨?_, fun i => ?_, fun x hx => ?_, fun x hx => ?_⟩
  · rw [hmap]
    exact List.nodup_append.2 ⟨h.once, List.nodup_singleton _, by
      rintro a ha b hb rfl
      exact hnot (List.mem_singleton.1 hb ▸ ha)⟩
  · rw [hmap, he, List.mem_append, List.mem_singleton, h.fencing, or_comm]
  · rw [ht, List.mem_append, List.mem_singleton] at hx
    rcases hx with hx | rfl
    · exact h.shaped x hx
    · simp only [FenceJob.shaped, hj, hn, Nat.zero_le]
  · rw [ht] at hx
    cases hq : s.fenceQueue with
    | nil => simp [hq] at hx
    | cons k rest =>
      rw [hq, List.cons_append, List.tail_cons, List.mem_append, List.mem_singleton] at hx
      rcases hx with hx | rfl
      · exact h.waiting x (by rwa [hq])
      · exact ⟨hj, hn⟩

/-- A waiting job at the tail leaves a head that waits. -/
theorem State.headWaits.append {s t : State} (h : s.headWaits) {j : FenceJob} (hj : j.state = .queued)
    (ht : t.fenceQueue = s.fenceQueue ++ [j]) : t.headWaits := by
  intro x hx
  rw [ht, List.head?_append] at hx
  cases hq : s.fenceQueue.head? with
  | none =>
    rw [hq] at hx
    cases hx
    exact hj
  | some k =>
    rw [hq] at hx
    cases hx
    exact h x hq

/-- A job joins the queue: the controller goes on with its head, or, in IDLE, the job is to start. -/
theorem State.fenceLaws.appended {s t : State} (h : s.fenceLaws) (hlaws : t.QueueLaws)
    (hb : t.bus = s.bus) {j : FenceJob} (ht : t.fenceQueue = s.fenceQueue ++ [j])
    (hj : j.state = .queued) : t.FenceReady := by
  have hfits := h.busFits
  refine ⟨hlaws, ?_⟩
  cases hst : s.bus.state with
  | idle =>
    obtain ⟨hattempt, hspeed, hq⟩ := (State.busFits_idle hst).1 hfits
    have hwaits : s.headWaits := by simp [State.headWaits, hq]
    exact .inr (by rw [hb]; exact ⟨hst, hattempt, hspeed, hwaits.append hj ht⟩)
  | transfer =>
    obtain ⟨a, ha, hplace, hwaits, hhead⟩ := (State.busFits_transfer hst).1 hfits
    refine .inl ((State.busFits_transfer (by rw [hb, hst])).2 ⟨a, by rw [hb, ha], hplace,
      fun hab => (hwaits hab).append hj ht, fun hab => ?_⟩)
    obtain ⟨k, hk, hkst, hka⟩ := hhead hab
    exact ⟨k, by rw [ht, List.head?_append, hk]; rfl, hkst, hka⟩
  | recovery =>
    exact .inl ((State.busFits_recovery (by rw [hb, hst])).2
      (((State.busFits_recovery hst).1 hfits).append hj ht))

/-- An entry enters FENCING and its fresh job joins the queue (R104, R117). -/
theorem State.fenceLaws.appendJob {s : State} (h : s.fenceLaws) {i : DirSlot} {e : Entry}
    (he : s.entry i = some e) (hs : e.state ≠ .fencing) (f g : Entry) (p : Profile) (lines : BusLines) :
    ((s.setEntry i (some f.enterFencing)).appendJob (freshJob i g p) lines).fenceLaws := by
  have hlaws : ({ s.setEntry i (some f.enterFencing) with
      fenceQueue := s.fenceQueue ++ [freshJob i g p] } : State).QueueLaws := by
    refine h.queueLaws.append rfl rfl ?_ rfl fun k => ?_
    · show fences (s.entry i) = false
      rw [he, fences_eq_false hs]
    · show fences ((s.setEntry i _).entry k) = true ↔ k = i ∨ _
      rw [State.fences_setEntry]
      split
      · next hk => exact iff_of_true rfl (.inl hk)
      · next hk => exact (or_iff_right hk).symm
  exact (h.appended hlaws rfl rfl rfl).startAttempt lines

/-! ### Revocation (R95, R103 to R105) -/

theorem State.fenceLaws.revokeExclusive {s : State} (h : s.fenceLaws) {i : DirSlot} {e : Entry}
    (he : s.entry i = some e) (hs : e.state ≠ .fencing) (lines : BusLines) :
    (s.revokeExclusive i lines).fenceLaws := by
  unfold State.revokeExclusive
  simp only [he]
  split
  · exact h.appendJob he hs _ _ _ lines
  · exact h.congr (State.fenceView_enterFree he hs)

/-- A live record revoked, whole with its effect at its entry. -/
theorem State.fenceLaws.revokeEnding {s : State} (h : s.fenceLaws) (hr : s.recordLaws) {l : LeaseSlot}
    {r : LeaseRecord} (hl : s.record l = some r) (hlive : r.live = true) (c : EndCause)
    (lines : BusLines) : (s.revokeEnding l c lines).fenceLaws := by
  obtain ⟨e, he, hs⟩ := hr.held hl hlive
  have he' : (s.endRecord l c).entry r.resource = some e := by rw [State.entry_endRecord, he]
  have h' : (s.endRecord l c).fenceLaws := h.congr (s.fenceView_endRecord l c)
  unfold State.revokeEnding State.revokeAt
  simp only [hl]
  split
  · exact h'.congr (State.fenceView_dropHolder he' hs l)
  · exact h'.revokeExclusive he' hs lines

/-- The walk over live records: each is live still at its turn (R105). -/
theorem State.fenceLaws.revokeEach {s : State} (h : s.fenceLaws) (hr : s.recordLaws) (lines : BusLines)
    (c : EndCause) (ls : List LeaseSlot) (hn : ls.Nodup)
    (hl : ∀ l, l ∈ ls → ∃ r, s.record l = some r ∧ r.live = true) :
    (ls.foldl (fun t l => t.revokeEnding l c lines) s).fenceLaws := by
  induction ls generalizing s with
  | nil => exact h
  | cons l ls ih =>
    obtain ⟨r, hlr, hlive⟩ := hl l List.mem_cons_self
    obtain ⟨hln, hn⟩ := List.nodup_cons.1 hn
    refine ih (h.revokeEnding hr hlr hlive c lines) (hr.revokeEnding hlr hlive c lines).laws hn
      fun k hk => ?_
    obtain ⟨x, hx, hxl⟩ := hl k (List.mem_cons_of_mem l hk)
    exact ⟨x, hr.keepsLive_revokeEnding hlr c lines k x (fun hkl => hln (hkl ▸ hk)) hx hxl, hxl⟩

theorem State.fenceLaws.teardownRecord {s : State} (h : s.fenceLaws) (hr : s.recordLaws) (l : LeaseSlot)
    (lines : BusLines) : (State.teardownRecord lines s l).fenceLaws := by
  unfold State.teardownRecord
  split
  · exact h
  · next r hl =>
    split
    · next hx =>
      obtain ⟨e, he, hs⟩ := hr.held hl (Bool.and_eq_true_iff.1 hx).1
      have h' : (s.vacateRecord l).fenceLaws := h.congr (s.fenceView_vacateRecord l)
      exact h'.revokeExclusive (by rw [s.entry_vacateRecord hl, he]) hs lines
    · exact h.congr (hr.fenceView_freeRecord l)

/-- The lapse of a session: its walk revokes and frees records one by one (R95). -/
theorem State.fenceLaws.lapse {s : State} (h : s.fenceLaws) (hr : s.recordLaws) (i : SessSlot)
    (x : Session) (c : LapseCause) (lines : BusLines) : (s.lapse i x c lines).fenceLaws := by
  have hwalk := foldl_preserves (fun t => t.recordLaws ∧ t.fenceLaws) (State.teardownRecord lines)
    (fun _ l ⟨hr, h⟩ => ⟨(hr.teardownRecord l lines).laws, h.teardownRecord hr l lines⟩) x.records
    (s := s.dropSessionMarks i)
    ⟨hr.congr (s.tables_modifySession i _), h.congr (s.fenceView_modifySession i _)⟩
  exact hwalk.2.congr rfl

/-! ### Attempts that end (R110, R111, R130 to R134) -/

theorem State.settleHead_bus (s : State) : s.settleHead.bus = s.bus := by
  unfold State.settleHead
  split
  · rfl
  · dsimp only
    split
    · rfl
    · split
      · rw [State.grantCheck_bus]
        rfl
      · rfl

/-- The head that succeeds leaves the queue, and its entry is no longer FENCING (R110). -/
theorem State.QueueLaws.settleHead {s : State} (h : s.QueueLaws) :
    s.settleHead.QueueLaws ∧ s.settleHead.headWaits := by
  cases hq : s.fenceQueue with
  | nil =>
    rw [show s.settleHead = s by simp only [State.settleHead, hq]]
    exact ⟨h, by simp [State.headWaits, hq]⟩
  | cons j rest =>
    obtain ⟨e, he, hs⟩ := fences_iff.1 ((h.fencing j.resource).1 (by simp [hq]))
    rw [State.settleHead_eq hq he hs]
    refine h.removeHead hq (State.grantCheck_fenceQueue _ _) fun i => ?_
    rw [State.fences_grantCheck, State.fences_setEntry]
    split
    · next hi => simp [hi, fences, Entry.enterFree]
    · next hi => exact (and_iff_right hi).symm

/-- A failure that is reported as the controller goes IDLE (R111, R130). -/
theorem State.fenceLaws.failIdle {s : State} (h : s.fenceLaws) (driven : List BusItem)
    (lines : BusLines) : (s.failIdle driven lines).fenceLaws := by
  obtain ⟨hlaws, hwaits⟩ := (h.queueLaws.setBus (s.bus.enterIdle driven)).failHead
  exact (hlaws.ready hwaits (State.failHead_bus _)).startAttempt lines

/-- The controller goes IDLE, nothing being reported, with a head that waits (R132, R134). -/
theorem State.fenceLaws.goIdle {s : State} (h : s.fenceLaws) (hw : s.headWaits)
    (driven : List BusItem) (lines : BusLines) :
    (({ s with bus := s.bus.enterIdle driven } : State).startAttempt lines).fenceLaws :=
  ((h.queueLaws.setBus (s.bus.enterIdle driven)).ready hw rfl).startAttempt lines

theorem State.fenceLaws.succeeded {s : State} (h : s.fenceLaws) (driven : List BusItem)
    (lines : BusLines) :
    (({ s with bus := s.bus.enterIdle driven } : State).settleHead.startAttempt lines).fenceLaws := by
  obtain ⟨hlaws, hwaits⟩ := (h.queueLaws.setBus (s.bus.enterIdle driven)).settleHead
  exact (hlaws.ready hwaits (State.settleHead_bus _)).startAttempt lines

section OnBus

variable {s : State} {a : Attempt} (h : s.fenceLaws) (hb : s.bus.onBus = some a)
include h hb

theorem State.fenceLaws.attemptFits : s.AttemptFits a := by
  obtain ⟨hst, ha⟩ := Bus.onBus_some_iff.1 hb
  obtain ⟨x, hx, hfits⟩ := (State.busFits_transfer hst).1 h.busFits
  cases ha.symm.trans hx
  exact hfits

/-- The attempt moves on to a place of its sequence (R125). -/
theorem State.fenceLaws.moved (hstop : a.atStop = false) : ({ s with bus := { s.bus with
    attempt := some { a with position := a.position + 1 } } } : State).fenceLaws := by
  obtain ⟨hplace, hwaits, hhead⟩ := h.attemptFits hb
  have hne : a.position + 1 ≠ a.sequence.length := by simpa [Attempt.atStop] using hstop
  refine (State.fenceLaws_iff _).2 ⟨h.queueLaws.setBus _, (State.busFits_transfer ?_).2
    ⟨{ a with position := a.position + 1 }, rfl, Nat.lt_of_le_of_ne hplace hne, hwaits, fun hab => ?_⟩⟩
  · exact (Bus.onBus_some_iff.1 hb).1
  obtain ⟨j, hj, hjs, hja⟩ := hhead hab
  exact ⟨j, hj, hjs, congrArg (fun b : Attempt => { b with position := a.position + 1 }) hja⟩

/-- A stall: RECOVERY begins, and the head waits, whether its failure is reported or the attempt was
abandoned (R131, R134). -/
theorem State.fenceLaws.stalled :
    let t := { s with bus := s.bus.enterRecovery a }
    (a.abandoned = true → t.fenceLaws) ∧ t.failHead.fenceLaws := by
  have hlaws := h.queueLaws.setBus (s.bus.enterRecovery a)
  refine ⟨fun hab => ?_, ?_⟩
  · exact (State.fenceLaws_iff _).2 ⟨hlaws, (State.busFits_recovery rfl).2
      ((h.attemptFits hb).abandoned hab)⟩
  · obtain ⟨hfail, hwaits⟩ := hlaws.failHead
    exact (State.fenceLaws_iff _).2
      ⟨hfail, (State.busFits_recovery (by rw [State.failHead_bus]; rfl)).2 hwaits⟩

end OnBus

/-! ### Resets (R121, R134, R173) -/

theorem State.fences_warmReset {s : State} {i : DirSlot} : fences (s.warmReset.entry i) = true ↔
    i ∈ s.warmReset.fenceQueue.map FenceJob.resource := by
  simp only [fences_iff, List.mem_map, State.mem_fenceQueue_warmReset]
  constructor
  · rintro ⟨f, hf, hst⟩
    obtain ⟨e, he, rfl⟩ := Option.map_eq_some_iff.1 ((s.entry_warmReset i).symm.trans hf)
    rw [State.settled_eq] at hst
    have hset : s.settlesFencing e = true := by
      by_contra hne
      rw [State.settledState, if_neg hne] at hst
      cases hst
    obtain ⟨-, n, p, hn, hp⟩ := State.settlesFencing_iff.1 hset
    refine ⟨freshJob i (s.settled e) p, ⟨s.settled e, n, p, hf, ?_, ?_, hp, rfl⟩, rfl⟩
    · rwa [State.settled_eq]
    · rwa [State.settled_eq]
  · rintro ⟨j, ⟨e, n, p, he, hst, -⟩, rfl⟩
    exact ⟨e, he, hst⟩

/-- The rebuilt queue: one fresh job for each FENCING entry (R121). -/
theorem State.queueLaws_warmReset (s : State) : s.warmReset.QueueLaws := by
  have hfresh : ∀ j ∈ s.warmReset.fenceQueue, j.state = .queued ∧ j.attempts = 0 := by
    intro j hj
    obtain ⟨e, n, p, -, -, -, -, hj⟩ := State.mem_fenceQueue_warmReset.1 hj
    rw [hj]
    exact ⟨rfl, rfl⟩
  refine ⟨(State.rebuiltQueue_ascending _).imp fun h => ne_of_lt h, fun i => State.fences_warmReset.symm,
    fun j hj => ?_, fun j hj => hfresh j (List.mem_of_mem_tail hj)⟩
  obtain ⟨hst, hn⟩ := hfresh j hj
  simp only [FenceJob.shaped, hst, hn, Nat.zero_le]

/-- An attempt in TRANSFER is abandoned, and every job of the rebuilt queue waits (R134). -/
theorem State.fenceLaws.warmReset {s : State} (h : s.fenceLaws) : s.warmReset.FenceReady := by
  have hwaits : s.warmReset.headWaits := by
    intro j hj
    obtain ⟨e, n, p, -, -, -, -, hj⟩ := State.mem_fenceQueue_warmReset.1 (List.mem_of_mem_head? hj)
    rw [hj]
    rfl
  have hbus : s.warmReset.bus = s.bus.abandon := rfl
  refine ⟨s.queueLaws_warmReset, ?_⟩
  cases hst : s.bus.state with
  | idle =>
    obtain ⟨hattempt, hspeed, -⟩ := (State.busFits_idle hst).1 h.busFits
    have hsame : s.bus.abandon = s.bus := by simp only [Bus.abandon, hst]
    exact .inr (by rw [hbus, hsame]; exact ⟨hst, hattempt, hspeed, hwaits⟩)
  | transfer =>
    obtain ⟨a, ha, hfits⟩ := (State.busFits_transfer hst).1 h.busFits
    have habandon : s.bus.abandon = { s.bus with attempt := some { a with abandoned := true } } := by
      simp only [Bus.abandon, hst, ha, Option.map_some]
    refine .inl ((State.busFits_transfer (by rw [hbus, habandon]; exact hst)).2
      ⟨{ a with abandoned := true }, by rw [hbus, habandon], hfits.place, fun _ => hwaits, nofun⟩)
  | recovery =>
    have hsame : s.bus.abandon = s.bus := by simp only [Bus.abandon, hst]
    exact .inl ((State.busFits_recovery (by rw [hbus, hsame, hst])).2 hwaits)

theorem State.fenceLaws_coldReset (s : State) (low adr : Bool) : (s.coldReset low adr).fenceLaws :=
  State.fenceLaws_reset.congr rfl

end Sys2Proof.Machine
end

section
/-! SUPPORT. Every command and event keeps the laws of the fence queue. -/

namespace Sys2Proof.Machine

/-! ### The commands that leave the fence queue and the bus alone -/

section Keeping

variable (p : PortIx) (args : List Byte) (s : State)

theorem openSession_fenceView : (openSession p args s).state.fenceView = s.fenceView := by
  unfold openSession
  split
  · rfl
  · split <;> rfl

theorem keepalive_fenceView : (keepalive p args s).state.fenceView = s.fenceView := by
  unfold keepalive
  split <;> rfl

theorem closeSession_fenceView (hr : s.recordLaws) :
    (closeSession p args s).state.fenceView = s.fenceView := by
  unfold closeSession
  split
  · rfl
  · split
    · rfl
    · exact hr.fenceView_releaseAll _

/-- A request is granted at once on a FREE or HELD_SHARED entry, and leaves it held (R45). -/
theorem State.fenceView_grantAtOnce {s : State} {d : DirSlot} {e : Entry} {mode : LeaseMode}
    (he : s.entry d = some e) (hg : e.grantable mode = true) (i : SessSlot) (l : LeaseSlot) :
    (s.grantAtOnce i d e mode l).state.fenceView = s.fenceView := by
  have hs : e.state ≠ .fencing := by
    obtain ⟨-, hst | ⟨hst, -⟩⟩ := Entry.grantable_iff.1 hg <;> rw [hst] <;> exact nofun
  exact (State.fenceView_allocate _ _ _).trans
    (State.fenceView_setEntry_other he hs (e.granted_not_fencing l mode))

theorem State.fenceView_enqueue {s : State} {d : DirSlot} {e : Entry} (he : s.entry d = some e)
    (i : SessSlot) (mode : LeaseMode) (limit : Half) (l : LeaseSlot) :
    (s.enqueue i d e mode limit l).state.fenceView = s.fenceView :=
  (State.fenceView_allocate _ _ _).trans (State.fenceView_setEntry_same he rfl)

theorem acquire_fenceView : (acquire p args s).state.fenceView = s.fenceView := by
  unfold acquire
  dsimp only
  split
  · split
    · rfl
    · split
      · rfl
      · next d e hf =>
        have he := (State.findKey_some hf).1
        split
        · rfl
        · split
          · exact s.fenceView_reportSpent d
          · split
            · rfl
            · split
              · rfl
              · split
                · next hg => exact State.fenceView_grantAtOnce he hg _ _
                · split
                  · rfl
                  · exact State.fenceView_enqueue he _ _ _ _
  · rfl

theorem release_fenceView (hr : s.recordLaws) : (release p args s).state.fenceView = s.fenceView := by
  unfold release
  split
  · rfl
  · exact hr.fenceView_freeRecord _

theorem renew_fenceView : (renew p args s).state.fenceView = s.fenceView := by
  unfold renew
  split
  · rfl
  · split
    · rfl
    · rfl
    · split
      · rfl
      · split <;> rfl

theorem queryLease_fenceView : (queryLease p args s).state.fenceView = s.fenceView := by
  unfold queryLease
  split <;> rfl

theorem queryResource_fenceView : (queryResource p args s).state.fenceView = s.fenceView := by
  unfold queryResource
  split <;> rfl

theorem State.recordLaws.fenceView_retire {s : State} (hr : s.recordLaws) (i : SessSlot) (n : Selected) :
    (s.retire i n).fenceView = s.fenceView := by
  cases n with
  | session k => exact s.fenceView_retireSession i
  | record l r n => exact hr.fenceView_retireRecord l

theorem fetchNotice_fenceView (hr : s.recordLaws) :
    (fetchNotice p args s).state.fenceView = s.fenceView := by
  unfold fetchNotice
  split
  · rfl
  · split
    · rfl
    · dsimp only
      split
      · exact hr.fenceView_retire _ _
      · rfl

theorem State.fenceView_acknowledge {s t : State} (ht : t.fenceView = s.fenceView) (i : SessSlot)
    (x : Session) (kind : Option Byte) : (s.acknowledge i x kind t).state.fenceView = s.fenceView := by
  unfold State.acknowledge
  split
  · rfl
  · split
    · rfl
    · exact ht

theorem ackNotice_fenceView (hr : s.recordLaws) :
    (ackNotice p args s).state.fenceView = s.fenceView := by
  unfold ackNotice
  split
  · split
    · rfl
    · exact State.fenceView_acknowledge (hr.fenceView_retireRecord _) _ _ _
  · split
    · rfl
    · split
      · exact State.fenceView_acknowledge (s.fenceView_retireSession _) _ _ _
      · rfl

theorem defineResource_fenceView : (defineResource p args s).state.fenceView = s.fenceView := by
  unfold defineResource
  split
  · rfl
  · split
    · rfl
    · split
      · rfl
      · split
        · rfl
        · next i hi =>
          have hi : s.entry i = none := by simpa using (lowest_some_iff.1 hi).1
          split
          · rfl
          · exact State.fenceView_setEntry (by rw [hi]; rfl)

theorem Entry.amended_state (e : Entry) (a : AmendArgs) : (e.amended a).state = e.state := by
  unfold Entry.amended
  dsimp only
  split_ifs <;> rfl

theorem amendResource_fenceView : (amendResource p args s).state.fenceView = s.fenceView := by
  unfold amendResource
  split
  · rfl
  · next i e hf =>
    split
    · rfl
    · split_ifs
      · rfl
      · rfl
      · exact State.fenceView_setEntry_same (State.findKey_some hf).1 (e.amended_state _)

/-- A slot goes VACANT from FREE (R17). -/
theorem deleteResource_fenceView : (deleteResource p args s).state.fenceView = s.fenceView := by
  unfold deleteResource
  split
  · rfl
  · next i e hf =>
    split
    · rfl
    · next hb =>
      have hs : e.state = .free := not_not.1 (not_or.1 hb).1
      have hfree : fences (s.entry i) = false := by
        rw [(State.findKey_some hf).1, fences_eq_false (by rw [hs]; exact nofun)]
      exact State.fenceView_setEntry (e := none) hfree.symm

theorem clearFenceAccept_fenceView : (clearFenceAccept p args s).state.fenceView = s.fenceView := by
  unfold clearFenceAccept
  split
  · rfl
  · split
    · rfl
    · next i e hf =>
      split
      · rfl
      · next hs =>
        exact State.fenceView_enterFree (State.findKey_some hf).1 (by rw [not_not.1 hs]; exact nofun)

theorem setClock_fenceView : (setClock p args s).state.fenceView = s.fenceView := by
  unfold setClock
  split
  · rfl
  · split_ifs <;> rfl

theorem setProfile_fenceView : (setProfile p args s).state.fenceView = s.fenceView := by
  unfold setProfile
  split
  · split <;> rfl
  · split <;> rfl
  · rfl

/-- The speed in force may change; that of an attempt or a recovery in progress does not (R126). -/
theorem setBus_fenceView : (setBus p args s).state.fenceView = s.fenceView := by
  unfold setBus
  split <;> rfl

theorem setLine_fenceView : (setLine p args s).state.fenceView = s.fenceView := by
  unfold setLine
  split <;> rfl

theorem setThreshold_fenceView : (setThreshold p args s).state.fenceView = s.fenceView := by
  unfold setThreshold
  split <;> rfl

theorem readAlerts_fenceView : (readAlerts p args s).state.fenceView = s.fenceView := by
  unfold readAlerts
  dsimp only
  split_ifs <;> rfl

theorem ackAlert_fenceView : (ackAlert p args s).state.fenceView = s.fenceView := by
  unfold ackAlert
  split
  · rfl
  · split_ifs <;> rfl

end Keeping

/-! ### Transactions at the ports -/

theorem State.fenceView_riseRead (s : State) (p : PortIx) (clocked : Nat) :
    (s.riseRead p clocked).fenceView = s.fenceView := by
  unfold State.riseRead
  dsimp only
  split <;> rfl

theorem State.fenceView_riseCommand (s : State) (p : PortIx) (mosi : List Byte) (loose : Nat) :
    (s.riseCommand p mosi loose).fenceView = s.fenceView := by
  unfold State.riseCommand
  dsimp only
  split
  · split <;> rfl
  · split_ifs
    · exact s.fenceView_riseRead p _
    all_goals rfl

theorem State.fenceView_mpReceive (s : State) (bytes : List Byte) (loose : Nat) :
    (s.mpReceive bytes loose).fenceView = s.fenceView := by
  unfold State.mpReceive
  dsimp only
  split
  · split <;> rfl
  · rfl

/-! ### The arbiter -/

section Rows

variable {s : State} (h : s.fenceLaws) {row : Frame → Bool} {body : PortIx → List Byte → State → Answer}
include h

theorem State.fenceLaws.take (hb : ∀ p args, (body p args s).state.fenceLaws) :
    (s.take row body).fenceLaws := by
  unfold State.take
  split
  · exact h
  · next p f _ =>
    dsimp only
    split
    · exact (hb p f.args).congr rfl
    · exact h

/-- A command or a management command. -/
theorem State.fenceLaws.run {management : Bool} {len : Nat}
    (hb : ∀ p args, (body p args s).state.fenceLaws) :
    (s.take row (Machine.checked management len body)).fenceLaws := by
  refine h.take fun p args => ?_
  unfold Machine.checked
  split_ifs
  · exact h
  · exact h
  · exact hb p args

end Rows

/-! ### The commands that reach the fence queue -/

section Reaching

variable {s : State} (h : s.fenceLaws) (hr : s.recordLaws) (p : PortIx) (args : List Byte)
  (lines : BusLines)
include h

theorem State.fenceLaws.clearFenceRetry : (clearFenceRetry lines p args s).state.fenceLaws := by
  unfold Machine.clearFenceRetry
  split
  · exact h
  · next i e hf =>
    split
    · exact h
    · next hs =>
      split
      · exact h
      · exact h.appendJob (State.findKey_some hf).1 (by rw [not_not.1 hs]; exact nofun) _ _ _ lines

include hr

theorem State.fenceLaws.forceRevoke : (forceRevoke lines p args s).state.fenceLaws := by
  unfold Machine.forceRevoke
  split
  · exact h
  · next i e _ =>
    split
    · exact h
    · dsimp only
      rw [State.liveRecordsOf_eq]
      refine h.revokeEach hr lines .forced _ (s.liveOn_nodup i) fun l hl => ?_
      obtain ⟨r, hlr, hlive, -⟩ := State.mem_liveOn.1 hl
      exact ⟨r, hlr, hlive⟩

theorem State.fenceLaws.purgeSession : (purgeSession lines p args s).state.fenceLaws := by
  unfold Machine.purgeSession
  split
  · exact h
  · split
    · exact h
    · split
      · exact h.congr rfl
      · exact (h.lapse hr _ _ .purged lines).congr rfl

end Reaching

/-! ### The events -/

/-- An outcome whose next state, if there is one, keeps the laws of the fence queue. -/
def leavesFenced (o : Host.Outcome State Fault Refusal) : Prop := ∀ t, o = .next t → t.fenceLaws

theorem leavesFenced_next {t : State} (h : t.fenceLaws) : leavesFenced (.next t) := by
  rintro u ⟨⟩
  exact h

section Events

variable {s : State} (h : s.fenceLaws)
include h

theorem State.fenceLaws.leaves_kept {t : State} (ht : t.fenceView = s.fenceView) :
    leavesFenced (.next t) := leavesFenced_next (h.congr ht)

theorem execCommandTransaction_fenced (p : AgentPort) (phase : CommandPhase) :
    leavesFenced (execCommandTransaction p phase s) := by
  cases phase with
  | fall => exact h.leaves_kept rfl
  | rise mosi loose => exact h.leaves_kept (s.fenceView_riseCommand _ _ _)

theorem execReadTransaction_fenced (p : AgentPort) (phase : ReadPhase) :
    leavesFenced (execReadTransaction p phase s) := by
  cases phase with
  | fall => exact h.leaves_kept rfl
  | typed => exact h.leaves_kept rfl
  | rise clocked => exact h.leaves_kept (s.fenceView_riseRead _ _)

theorem execMpWrite_fenced (addr : BitVec 7) (bytes : List Byte) (loose : Nat) :
    leavesFenced (execMpWrite addr bytes loose s) := by
  unfold execMpWrite
  split
  · exact h.leaves_kept (s.fenceView_mpReceive _ _)
  · exact h.leaves_kept rfl

theorem execMpRead_fenced (addr : BitVec 7) (count : Nat) (nackStop : Bool) :
    leavesFenced (execMpRead addr count nackStop s) := by
  unfold execMpRead
  dsimp only
  split <;> exact h.leaves_kept rfl

theorem execResetPort_fenced (p : PortIx) : leavesFenced (execResetPort p s) := by
  unfold execResetPort
  split
  · exact h.leaves_kept (s.fenceView_mpReceive _ _)
  · exact h.leaves_kept (s.fenceView_riseCommand _ _ _)

theorem execClockStop_fenced : leavesFenced (execClockStop s) := by
  unfold execClockStop
  split
  · exact h.leaves_kept rfl
  · exact leavesFenced_next (h.run fun _ _ => h.congr rfl)

theorem execTick_fenced (periods : Nat) : leavesFenced (execTick periods s) := by
  unfold execTick
  split
  · exact h.leaves_kept rfl
  · split_ifs <;> exact h.leaves_kept rfl

theorem execWarnMarkReached_fenced (l : LeaseSlot) : leavesFenced (execWarnMarkReached l s) := by
  unfold execWarnMarkReached
  split
  · exact h.leaves_kept rfl
  · split <;> exact h.leaves_kept rfl

theorem execHoldExpiry_fenced (hr : s.recordLaws) (l : LeaseSlot) (lines : BusLines) :
    leavesFenced (execHoldExpiry l lines s) := by
  unfold execHoldExpiry
  split
  · exact h.leaves_kept rfl
  · next r hl =>
    split
    · next hx =>
      exact leavesFenced_next (h.revokeEnding hr hl (Bool.and_eq_true_iff.1 hx).1 .expired lines)
    · exact h.leaves_kept rfl

theorem execWaitExpiry_fenced (l : LeaseSlot) : leavesFenced (execWaitExpiry l s) := by
  unfold execWaitExpiry
  split
  · exact h.leaves_kept rfl
  · split
    · exact h.leaves_kept (by rw [State.fenceView_leaveQueue, State.fenceView_endRecord])
    · exact h.leaves_kept rfl

theorem execSessionWarning_fenced (i : SessSlot) : leavesFenced (execSessionWarning i s) := by
  unfold execSessionWarning
  split
  · exact h.leaves_kept rfl
  · split <;> exact h.leaves_kept rfl

theorem execSessionLapse_fenced (hr : s.recordLaws) (i : SessSlot) (lines : BusLines) :
    leavesFenced (execSessionLapse i lines s) := by
  unfold execSessionLapse
  split
  · exact h.leaves_kept rfl
  · next x _ =>
    split
    · exact leavesFenced_next ((h.lapse hr i x .expired lines).congr rfl)
    · exact h.leaves_kept rfl

theorem execAttemptSuccess_fenced (phase : AttemptPhase) : leavesFenced (execAttemptSuccess phase s) := by
  unfold execAttemptSuccess
  split
  · exact h.leaves_kept rfl
  · next a hb =>
    split
    · exact h.leaves_kept rfl
    · cases phase with
      | moved =>
        dsimp only
        split
        · exact h.leaves_kept rfl
        · next hstop => exact leavesFenced_next (h.moved hb (by simpa using hstop))
      | ended lines =>
        dsimp only
        split
        · exact leavesFenced_next (h.succeeded a.sequence lines)
        · exact h.leaves_kept rfl

theorem execAttemptNack_fenced (at_ : Nat) (lines : BusLines) :
    leavesFenced (execAttemptNack at_ lines s) := by
  unfold execAttemptNack
  split
  · exact h.leaves_kept rfl
  · split
    · exact leavesFenced_next (h.failIdle _ lines)
    · exact h.leaves_kept rfl

theorem execReadBackMismatch_fenced (b : Byte) (lines : BusLines) :
    leavesFenced (execReadBackMismatch b lines s) := by
  unfold execReadBackMismatch
  split
  · exact h.leaves_kept rfl
  · split
    · exact leavesFenced_next (h.failIdle _ lines)
    · exact h.leaves_kept rfl

theorem execStall_fenced (at_ : Nat) : leavesFenced (execStall at_ s) := by
  unfold execStall
  split
  · exact h.leaves_kept rfl
  · next a hb =>
    obtain ⟨habandoned, hreported⟩ := h.stalled hb
    dsimp only
    split_ifs with _ hab
    · exact leavesFenced_next (habandoned hab)
    · exact leavesFenced_next hreported
    · exact h.leaves_kept rfl

theorem execRecoveryEnd_fenced (pulses : Nat) (freed : Bool) (lines : BusLines) :
    leavesFenced (execRecoveryEnd pulses freed lines s) := by
  unfold execRecoveryEnd
  split
  · next hx => exact leavesFenced_next (h.goIdle ((State.busFits_recovery hx.1).1 h.busFits) _ lines)
  · exact h.leaves_kept rfl

theorem execRecoveryTimeout_fenced (pulses : Nat) (lines : BusLines) :
    leavesFenced (execRecoveryTimeout pulses lines s) := by
  unfold execRecoveryTimeout
  split
  · next hx => exact leavesFenced_next (h.goIdle ((State.busFits_recovery hx.1).1 h.busFits) _ lines)
  · exact h.leaves_kept rfl

theorem execAbandonedAttemptEnd_fenced (at_ : Nat) (lines : BusLines) :
    leavesFenced (execAbandonedAttemptEnd at_ lines s) := by
  unfold execAbandonedAttemptEnd
  split
  · exact h.leaves_kept rfl
  · next a hb =>
    split
    · next hx => exact leavesFenced_next (h.goIdle ((h.attemptFits hb).abandoned hx.2) _ lines)
    · exact h.leaves_kept rfl

omit h in
theorem execColdReset_fenced (phase : ResetPhase) : leavesFenced (execColdReset phase s) := by
  cases phase with
  | fall => exact leavesFenced_next (s.fenceLaws_coldReset _ _)
  | rise adr => exact leavesFenced_next (s.fenceLaws_coldReset _ _)

theorem execStartupComplete_fenced : leavesFenced (execStartupComplete s) := by
  unfold execStartupComplete
  split <;> exact h.leaves_kept rfl

/-- A row of the arbiter whose body leaves the fence queue and the bus alone. -/
theorem State.fenceLaws.leaves_run {management : Bool} {row : Frame → Bool} {len : Nat}
    {body : PortIx → List Byte → State → Answer}
    (hb : ∀ p args, (body p args s).state.fenceView = s.fenceView) :
    leavesFenced (.next (s.take row (Machine.checked management len body))) :=
  leavesFenced_next (h.run fun p args => h.congr (hb p args))

/-- Every command and event keeps the laws of the fence queue. -/
theorem exec_fenced (hr : s.recordLaws) (c : Instr) : leavesFenced (exec c s) := by
  cases c with
  | commandTransaction p phase => exact execCommandTransaction_fenced h p phase
  | readTransaction p phase => exact execReadTransaction_fenced h p phase
  | mpWrite addr bytes loose => exact execMpWrite_fenced h addr bytes loose
  | mpRead addr count nackStop => exact execMpRead_fenced h addr count nackStop
  | resetPort p => exact execResetPort_fenced h p
  | unknownCommand => exact leavesFenced_next (h.take fun _ _ => h)
  | openSession => exact h.leaves_run fun p args => openSession_fenceView p args s
  | keepalive => exact h.leaves_run fun p args => keepalive_fenceView p args s
  | closeSession => exact h.leaves_run fun p args => closeSession_fenceView p args s hr
  | acquire => exact h.leaves_run fun p args => acquire_fenceView p args s
  | release => exact h.leaves_run fun p args => release_fenceView p args s hr
  | renew => exact h.leaves_run fun p args => renew_fenceView p args s
  | queryLease => exact h.leaves_run fun p args => queryLease_fenceView p args s
  | queryResource => exact h.leaves_run fun p args => queryResource_fenceView p args s
  | readClock => exact h.leaves_run fun _ _ => rfl
  | fetchNotice => exact h.leaves_run fun p args => fetchNotice_fenceView p args s hr
  | ackNotice => exact h.leaves_run fun p args => ackNotice_fenceView p args s hr
  | defineResource => exact h.leaves_run fun p args => defineResource_fenceView p args s
  | amendResource => exact h.leaves_run fun p args => amendResource_fenceView p args s
  | deleteResource => exact h.leaves_run fun p args => deleteResource_fenceView p args s
  | forceRevoke lines => exact leavesFenced_next (h.run fun p args => h.forceRevoke hr p args lines)
  | clearFenceAccept => exact h.leaves_run fun p args => clearFenceAccept_fenceView p args s
  | clearFenceRetry lines => exact leavesFenced_next (h.run fun p args => h.clearFenceRetry p args lines)
  | clockStart => exact h.leaves_run fun _ _ => rfl
  | clockStop => exact execClockStop_fenced h
  | setClock => exact h.leaves_run fun p args => setClock_fenceView p args s
  | purgeSession lines => exact leavesFenced_next (h.run fun p args => h.purgeSession hr p args lines)
  | setProfile => exact h.leaves_run fun p args => setProfile_fenceView p args s
  | setBus => exact h.leaves_run fun p args => setBus_fenceView p args s
  | setLine => exact h.leaves_run fun p args => setLine_fenceView p args s
  | setThreshold => exact h.leaves_run fun p args => setThreshold_fenceView p args s
  | readAlerts => exact h.leaves_run fun p args => readAlerts_fenceView p args s
  | ackAlert => exact h.leaves_run fun p args => ackAlert_fenceView p args s
  | warmReset lines => exact leavesFenced_next (h.run fun _ _ => h.warmReset.startAttempt lines)
  | tick periods => exact execTick_fenced h periods
  | warnMarkReached l => exact execWarnMarkReached_fenced h l
  | holdExpiry l lines => exact execHoldExpiry_fenced h hr l lines
  | waitExpiry l => exact execWaitExpiry_fenced h l
  | sessionWarning i => exact execSessionWarning_fenced h i
  | sessionLapse i lines => exact execSessionLapse_fenced h hr i lines
  | attemptSuccess phase => exact execAttemptSuccess_fenced h phase
  | attemptNack at_ lines => exact execAttemptNack_fenced h at_ lines
  | readBackMismatch b lines => exact execReadBackMismatch_fenced h b lines
  | stall at_ => exact execStall_fenced h at_
  | recoveryEnd pulses freed lines => exact execRecoveryEnd_fenced h pulses freed lines
  | recoveryTimeout pulses lines => exact execRecoveryTimeout_fenced h pulses lines
  | abandonedAttemptEnd at_ lines => exact execAbandonedAttemptEnd_fenced h at_ lines
  | coldReset phase => exact execColdReset_fenced phase
  | startupComplete => exact execStartupComplete_fenced h
  | resetPortBadArg => exact leavesFenced_next (h.take fun _ _ => h)

end Events

/-- Settles O57: with the laws of the records, which say that the entry of a live record is held, every
event keeps the laws of the fence queue. -/
theorem stepsKeepTheFenceLaws : Obligations.StepsKeepTheFenceLaws := by
  intro s t ⟨_, _, _, hr, h⟩ hstep
  unfold step at hstep
  split at hstep
  · cases hstep
    exact h
  · next c rest _ =>
    have h' : ({ s with pending := rest } : State).fenceLaws := h.congr rfl
    exact exec_fenced h' (hr.congr rfl) c t hstep

end Sys2Proof.Machine
end

section
/-! SUPPORT. FORCE REVOKE and CLEAR FENCE, the start of an attempt and its ends on the enforcement bus. -/

namespace Sys2Proof.Machine

/-! ### FORCE REVOKE (R105) -/

/-- An entry defined before an operation that leaves no slot VACANT is defined after it. -/
theorem State.entry_of_definedSlots {s t : State} (h : t.definedSlots = s.definedSlots) {i : DirSlot}
    {e : Entry} (he : s.entry i = some e) : ∃ f, t.entry i = some f := by
  have hi : (t.entry i).isSome = (s.entry i).isSome := congrFun h i
  rw [he] at hi
  exact Option.isSome_iff_exists.1 hi

theorem State.entryFields_eq {s : State} {i : DirSlot} {e : Entry} (he : s.entry i = some e) :
    s.entryFields i = [e.state.code] ++ wordBytes e.generation := by
  simp only [State.entryFields, he]

section ForceRevoke

variable {s : State} {args : List Byte} {i : DirSlot} {e : Entry} (lines : BusLines) (p : PortIx)

theorem forceRevoke_notHeld (hk : s.findKey (argWord args 0) = some (i, e)) (hh : e.holders = 0) :
    forceRevoke lines p args s = s.refuse .notHeld := by
  simp only [forceRevoke, hk, if_pos hh]

theorem forceRevoke_held (hk : s.findKey (argWord args 0) = some (i, e)) (hh : e.holders ≠ 0)
    {t : State} (ht : t = (s.liveOn i).foldl (fun t l => t.revokeEnding l .forced lines) s) :
    forceRevoke lines p args s =
      { state := t, status := .ok, fields := natByte (s.liveOn i).length :: t.entryFields i } := by
  simp only [forceRevoke, hk, if_neg hh, State.liveRecordsOf_eq, ht]

end ForceRevoke

/-- Settles O42: the walk over the live records leaves the entry defined, and its fields are the answer. -/
theorem forceRevokeRevokesTheLiveRecords : Obligations.ForceRevokeRevokesTheLiveRecords := by
  intro s lines args i e hnext hlen hk
  refine ⟨fun hh => congrArg _ (State.management_answers hnext hlen (forceRevoke_notHeld lines 4 hk hh)),
    fun hh => ?_⟩
  generalize ht : (s.liveOn i).foldl (fun t l => t.revokeEnding l .forced lines) s = t
  have hslots : t.definedSlots = s.definedSlots := ht ▸
    foldl_keeps State.definedSlots _ (fun u l => u.definedSlots_revokeEnding l .forced lines) _ s
  obtain ⟨f, hf⟩ := State.entry_of_definedSlots hslots (State.findKey_some hk).1
  have hbody := forceRevoke_held lines 4 hk hh ht.symm
  rw [State.entryFields_eq hf] at hbody
  exact ⟨t, f, rfl, hf, congrArg _ (State.management_answers hnext hlen hbody)⟩

/-! ### CLEAR FENCE (R115 to R117) -/

section ClearFence

variable {s : State} {args : List Byte} {i : DirSlot} {e : Entry} (p : PortIx)

theorem clearFenceAccept_badArg (ha : argByte args 4 ≠ 0) :
    clearFenceAccept p args s = s.refuse .badArg := by
  simp only [clearFenceAccept, if_pos ha]

theorem clearFenceAccept_badState (ha : argByte args 4 = 0)
    (hk : s.findKey (argWord args 0) = some (i, e)) (hs : e.state ≠ .fenceFailed) :
    clearFenceAccept p args s = s.refuse .badState := by
  simp only [clearFenceAccept, ha, ne_eq, not_true_eq_false, if_false, hk, hs, not_false_eq_true, if_true]

theorem clearFenceAccept_failed (ha : argByte args 4 = 0)
    (hk : s.findKey (argWord args 0) = some (i, e)) (hs : e.state = .fenceFailed) {t : State}
    (ht : t = (s.setEntry i (some e.enterFree)).grantCheck i) :
    clearFenceAccept p args s = { state := t, status := .ok, fields := t.entryFields i } := by
  simp only [clearFenceAccept, ha, ne_eq, not_true_eq_false, if_false, hk, hs, ht]

theorem clearFenceRetry_badState (hk : s.findKey (argWord args 0) = some (i, e))
    (hs : e.state ≠ .fenceFailed ∨ e.profile = none) (lines : BusLines) :
    clearFenceRetry lines p args s = s.refuse .badState := by
  unfold clearFenceRetry
  simp only [hk]
  split
  · rfl
  · next hst =>
    have hprofile : s.profileOf e = none := by
      rw [State.profileOf, hs.resolve_left hst, Option.bind_none]
    simp only [hprofile]

theorem clearFenceRetry_failed (hk : s.findKey (argWord args 0) = some (i, e))
    (hs : e.state = .fenceFailed) {q : Profile} (hq : s.profileOf e = some q) {lines : BusLines} {t : State}
    (ht : t = (s.setEntry i (some e.enterFencing)).appendJob (freshJob i e q) lines) :
    clearFenceRetry lines p args s = { state := t, status := .ok, fields := t.entryFields i } := by
  simp only [clearFenceRetry, hk, hs, ne_eq, not_true_eq_false, if_false, hq, ht]

/-- The row CLEAR_FENCE_ACCEPT takes the frame of every action but RETRY (log 13). -/
theorem exec_clearFenceAccept (hnext : s.nextTake = some (4, ⟨Code.clearFence, args⟩))
    (hlen : args.length = 5) (ha : argByte args 4 ≠ 1) {a : Answer}
    (hb : clearFenceAccept 4 args s = a) : exec .clearFenceAccept s =
      .next (a.state.answer 4 Code.clearFence a.status a.fields) :=
  congrArg _ (State.take_clearFence hnext hlen (by simpa using ha) hb)

theorem exec_clearFenceRetry (hnext : s.nextTake = some (4, ⟨Code.clearFence, args⟩))
    (hlen : args.length = 5) (ha : argByte args 4 = 1) {lines : BusLines} {a : Answer}
    (hb : clearFenceRetry lines 4 args s = a) : exec (.clearFenceRetry lines) s =
      .next (a.state.answer 4 Code.clearFence a.status a.fields) :=
  congrArg _ (State.take_clearFence hnext hlen (by simpa using ha) hb)

end ClearFence

/-- Settles O43: each row by its action and the entry's state; the entry stays defined, so that the answer
gives its fields. -/
theorem clearFenceAcceptsOrRetries : Obligations.ClearFenceAcceptsOrRetries := by
  intro s lines args hnext hlen action
  have haction : action = (argByte args 4).toNat := rfl
  have haccept : action = 0 → argByte args 4 = 0 := fun ha => by bv_omega
  have hretry : action = 1 → argByte args 4 = 1 := fun ha => by bv_omega
  refine ⟨fun ha => exec_clearFenceAccept hnext hlen (by bv_omega)
    (clearFenceAccept_badArg 4 (by bv_omega)), fun i e hk => ?_⟩
  refine ⟨fun ha hs => ?_, fun ha hs => ?_, fun ha hs => ?_, fun n q ha hs hn hq => ?_⟩
  · exact exec_clearFenceAccept hnext hlen (by simp [haccept ha])
      (clearFenceAccept_badState 4 (haccept ha) hk hs)
  · exact exec_clearFenceRetry hnext hlen (hretry ha) (clearFenceRetry_badState 4 hk hs lines)
  · generalize ht : (s.setEntry i (some e.enterFree)).grantCheck i = t
    have hslots : t.definedSlots = (s.setEntry i (some e.enterFree)).definedSlots :=
      ht ▸ State.definedSlots_grantCheck _ i
    obtain ⟨f, hf⟩ := State.entry_of_definedSlots hslots (s.entry_setEntry_self i _)
    have hbody := clearFenceAccept_failed 4 (haccept ha) hk hs ht.symm
    rw [State.entryFields_eq hf] at hbody
    exact ⟨t, f, ht.symm, hf, exec_clearFenceAccept hnext hlen (by simp [haccept ha]) hbody⟩
  · have hprofile : s.profileOf e = some q := State.profileOf_eq_some.2 ⟨n, hn, hq⟩
    generalize ht : (s.setEntry i (some e.enterFencing)).appendJob (freshJob i e q) lines = t
    have hslots : t.definedSlots = (s.setEntry i (some e.enterFencing)).definedSlots :=
      ht ▸ State.definedSlots_appendJob _ _ lines
    obtain ⟨f, hf⟩ := State.entry_of_definedSlots hslots (s.entry_setEntry_self i _)
    have hbody := clearFenceRetry_failed 4 hk hs hprofile ht.symm
    rw [State.entryFields_eq hf] at hbody
    exact ⟨t, f, ht.symm, hf, exec_clearFenceRetry hnext hlen (hretry ha) hbody⟩

/-! ### The start of an attempt (R109, R111, R112, R127 to R129) -/

theorem BusLines.both_high_iff {lines : BusLines} :
    (lines.escl && lines.esda) = true ↔ lines.escl = true ∧ lines.esda = true := Bool.and_eq_true_iff

/-- What an attempt for job `j` puts on the bus before its payload (R128). -/
def FenceJob.writeBegin (j : FenceJob) : List BusItem :=
  [.start, .write (addressWrite j.profile.target), .write j.profile.register]

theorem FenceJob.sequence_unverified {j : FenceJob} (hv : j.profile.verify = false) :
    j.attempt.sequence = j.writeBegin ++ j.payload.map BusItem.write ++ [BusItem.stop] := by
  have hv' : j.attempt.verify = false := hv
  simp only [Attempt.sequence, hv', Bool.false_eq_true, if_false, List.append_nil]
  rfl

/-- With verify the register is read back after the payload (R129). -/
theorem FenceJob.sequence_verified {j : FenceJob} (hv : j.profile.verify = true) :
    j.attempt.sequence = j.writeBegin ++ j.payload.map BusItem.write ++
      [BusItem.repeatedStart, .write (addressWrite j.profile.target), .write j.profile.register,
        .repeatedStart, .write (addressRead j.profile.target), .read, .stop] := by
  have hv' : j.attempt.verify = true := hv
  simp only [Attempt.sequence, hv', if_true, List.append_assoc]
  rfl

section Payload

variable {j : FenceJob}

theorem FenceJob.payload_fixed (hf : j.profile.form = .fixed) : j.payload = [j.profile.fixedValue] := by
  simp only [FenceJob.payload, hf]

theorem FenceJob.payload_generation (hf : j.profile.form = .generation) :
    j.payload = wordBytes j.generation := by
  simp only [FenceJob.payload, hf]

theorem FenceJob.payload_fixedThenGeneration (hf : j.profile.form = .fixedThenGeneration) :
    j.payload = j.profile.fixedValue :: wordBytes j.generation := by
  simp only [FenceJob.payload, hf]

end Payload

/-- Settles O44: the start and the failure of the head job case by case, and the sequence of its attempt
by payload form. -/
theorem headJobStartsOnAnIdleBus : Obligations.HeadJobStartsOnAnIdleBus := by
  refine ⟨fun s j rest lines hq hj hb => ⟨fun hl => ?_, fun hl => ?_⟩, fun s lines h => ?_,
    fun s j lines => rfl,
    fun s j rest hq => ⟨State.failHead_retried hq, fun e => State.failHead_removed hq⟩, fun j => ?_⟩
  · exact State.startAttempt_high hq hj hb (BusLines.both_high_iff.2 hl)
  · exact State.startAttempt_low hq hj hb (Bool.eq_false_iff.2 (mt BusLines.both_high_iff.1 hl))
  · rcases h with hb | hq | ⟨j, rest, hq, hj⟩
    · exact State.startAttempt_busy hb
    · exact State.startAttempt_empty hq
    · exact State.startAttempt_inFlight hq hj
  · refine ⟨rfl, rfl, rfl, rfl, rfl, rfl, fun hv => ⟨fun hf => ?_, fun hf => ?_, fun hf => ?_⟩,
      fun hv hf => ?_⟩
    · rw [FenceJob.sequence_unverified hv, FenceJob.payload_fixed hf]
      rfl
    · rw [FenceJob.sequence_unverified hv, FenceJob.payload_generation hf]
      rfl
    · rw [FenceJob.sequence_unverified hv, FenceJob.payload_fixedThenGeneration hf]
      rfl
    · rw [FenceJob.sequence_verified hv, FenceJob.payload_fixed hf]
      rfl

/-! ### The ends of an attempt (R110, R125, R129, R130) -/

section Ends

variable {s : State} {a : Attempt} (h : s.bus.onBus = some a)
include h

theorem exec_attemptSuccess_abandoned (hab : a.abandoned = true) (phase : AttemptPhase) :
    exec (.attemptSuccess phase) s = .next s := by
  show execAttemptSuccess phase s = _
  simp only [execAttemptSuccess, h, hab, if_true]

theorem exec_attemptSuccess_moved (hab : a.abandoned = false) :
    exec (.attemptSuccess .moved) s = if a.atStop then .next s
      else .next { s with bus := { s.bus with attempt := some { a with position := a.position + 1 } } } := by
  show execAttemptSuccess .moved s = _
  simp only [execAttemptSuccess, h, hab, Bool.false_eq_true, if_false]

theorem exec_attemptSuccess_ended (hab : a.abandoned = false) (lines : BusLines) :
    exec (.attemptSuccess (.ended lines)) s = if a.atStop then
        .next (({ s with bus := s.bus.enterIdle a.sequence } : State).settleHead.startAttempt lines)
      else .next s := by
  show execAttemptSuccess (.ended lines) s = _
  simp only [execAttemptSuccess, h, hab, Bool.false_eq_true, if_false]

theorem exec_attemptNack (k : Nat) (lines : BusLines) : exec (.attemptNack k lines) s =
    if a.position = k ∧ a.abandoned = false ∧ a.writing = true then
      .next (s.failIdle (a.driven ++ [.stop]) lines)
    else .next s := by
  show execAttemptNack k lines s = _
  simp only [execAttemptNack, h]

theorem exec_readBackMismatch (b : Byte) (lines : BusLines) : exec (.readBackMismatch b lines) s =
    if a.abandoned = false ∧ a.verify = true ∧ a.position + 1 = a.sequence.length ∧ b ≠ a.expected then
      .next (s.failIdle a.sequence lines)
    else .next s := by
  show execReadBackMismatch b lines s = _
  simp only [execReadBackMismatch, h, Bool.and_eq_true, Bool.not_eq_true', decide_eq_true_eq,
    Attempt.atStop_iff, and_assoc]

end Ends

/-- Settles O45: the two moments of an attempt that goes well, before its STOP and at it. -/
theorem successFreesTheEntry : Obligations.SuccessFreesTheEntry := by
  intro s a hb ha
  have h : s.bus.onBus = some a := Bus.onBus_some_iff.2 ⟨hb, ha⟩
  refine ⟨fun hab hpos => ?_, fun hab hpos => ?_, exec_attemptSuccess_abandoned h⟩
  · have hstop : ¬ a.atStop = true := mt a.atStop_iff.1 hpos.ne
    exact ⟨(exec_attemptSuccess_moved h hab).trans (if_neg hstop),
      fun lines => (exec_attemptSuccess_ended h hab lines).trans (if_neg hstop)⟩
  · have hstop : a.atStop = true := a.atStop_iff.2 hpos
    refine ⟨(exec_attemptSuccess_moved h hab).trans (if_pos hstop), fun lines j rest e hq he hs => ?_⟩
    rw [exec_attemptSuccess_ended h hab, if_pos hstop,
      State.settleHead_eq (s := { s with bus := s.bus.enterIdle a.sequence }) hq he hs]
    rfl

/-- Settles O46: the NACK at a byte written and the mismatch at the STOP fail the head job on the idle
bus; elsewhere the two events do not come about. -/
theorem failureOnTheWireFailsTheHeadJob : Obligations.FailureOnTheWireFailsTheHeadJob := by
  intro s lines a hb ha idle
  have h : s.bus.onBus = some a := Bus.onBus_some_iff.2 ⟨hb, ha⟩
  refine ⟨fun hab => ⟨fun b hw => ?_, fun hw => ?_, fun b hv hpos => ?_⟩, fun k hk => ?_, fun b hne => ?_⟩
  · rw [exec_attemptNack h, if_pos ⟨rfl, hab, a.writing_iff.2 ⟨b, hw⟩⟩]
    rfl
  · rw [exec_attemptNack h, if_neg]
    rintro ⟨-, -, hwriting⟩
    obtain ⟨b, hwb⟩ := a.writing_iff.1 hwriting
    exact hw b hwb
  · rw [exec_readBackMismatch h]
    by_cases hbe : b = a.expected
    · rw [if_pos hbe, if_neg fun ⟨_, _, _, hne⟩ => hne hbe]
    · rw [if_neg hbe, if_pos ⟨hab, hv, hpos, hbe⟩]
      rfl
  · rw [exec_attemptNack h, if_neg]
    rintro ⟨hkp, hab, -⟩
    exact hk.elim (· hkp.symm) (by simp [hab])
  · rw [exec_readBackMismatch h, if_neg]
    rintro ⟨hab, hv, hpos, -⟩
    exact hne.elim (by simp [hv]) (·.elim (· hpos) (by simp [hab]))

end Sys2Proof.Machine
end

section
/-! SUPPORT. Stalls, recoveries and abandoned attempts on the enforcement bus, and the commands that set
its profiles and its speed. -/

namespace Sys2Proof.Machine

/-! ### Stalls (R131, R134) -/

/-- Where an attempt can stall, by the item at the place that it has reached (log 23). -/
theorem Attempt.canStall_iff {a : Attempt} {item : BusItem} (hi : a.sequence[a.position]? = some item) :
    a.canStall = true ↔ (item = .read ∨ item = .stop ∨ ∃ b, item = .write b) ∨
      (item = .repeatedStart ∧ a.abandoned = true) := by
  unfold Attempt.canStall Attempt.item
  rw [hi]
  cases item <;> simp

section Stalls

variable {s : State} {a : Attempt} (h : s.bus.onBus = some a)
include h

theorem exec_stall (k : Nat) : exec (.stall k) s =
    if a.position = k ∧ a.canStall = true then
      if a.abandoned then .next { s with bus := s.bus.enterRecovery a }
      else .next ({ s with bus := s.bus.enterRecovery a } : State).failHead
    else .next s := by
  show execStall k s = _
  simp only [execStall, h]

theorem exec_stall_reported (hstall : a.canStall = true) (hab : a.abandoned = false) :
    exec (.stall a.position) s = .next ({ s with bus := s.bus.enterRecovery a } : State).failHead := by
  rw [exec_stall h, if_pos ⟨rfl, hstall⟩, hab, if_neg Bool.false_ne_true]

theorem exec_stall_abandoned (hstall : a.canStall = true) (hab : a.abandoned = true) :
    exec (.stall a.position) s = .next { s with bus := s.bus.enterRecovery a } := by
  rw [exec_stall h, if_pos ⟨rfl, hstall⟩, if_pos hab]

theorem exec_stall_impossible (hstall : ¬ a.canStall = true) (k : Nat) :
    exec (.stall k) s = .next s := by
  rw [exec_stall h, if_neg fun ⟨_, hcan⟩ => hstall hcan]

theorem exec_stall_elsewhere {k : Nat} (hk : k ≠ a.position) : exec (.stall k) s = .next s := by
  rw [exec_stall h, if_neg fun ⟨hpos, _⟩ => hk hpos.symm]

theorem exec_abandonedAttemptEnd (k : Nat) (lines : BusLines) : exec (.abandonedAttemptEnd k lines) s =
    if a.position = k ∧ a.abandoned = true then
      .next (({ s with bus := s.bus.enterIdle (a.driven ++ [.stop]) } : State).startAttempt lines)
    else .next s := by
  show execAbandonedAttemptEnd k lines s = _
  simp only [execAbandonedAttemptEnd, h]

end Stalls

/-! ### The ends of a recovery (R132, R133) -/

section Recovery

variable {s : State} {pulses : Nat} (hb : s.bus.state = .recovery) (hp : pulses ≤ 9) (lines : BusLines)
include hb hp

theorem exec_recoveryEnd {freed : Bool} (hend : freed = true ∨ pulses = 9) :
    exec (.recoveryEnd pulses freed lines) s = .next (({ s with
      bus := s.bus.enterIdle (s.bus.driven ++ List.replicate pulses .pulse ++ [.stop]) } :
        State).startAttempt lines) :=
  if_pos ⟨hb, hp, hend⟩

theorem exec_recoveryTimeout : exec (.recoveryTimeout pulses lines) s = .next (({ s with
    bus := s.bus.enterIdle (s.bus.driven ++ List.replicate pulses .pulse) } : State).startAttempt lines) :=
  if_pos ⟨hb, hp⟩

end Recovery

/-- Settles O47: a stall by the item reached and by whether the attempt is abandoned, the two ends of a
recovery, and the end of an abandoned attempt. -/
theorem stallsRecoverAndAbandonedAttemptsEnd : Obligations.StallsRecoverAndAbandonedAttemptsEnd := by
  refine ⟨fun s a item hb ha hi => ?_, fun s lines pulses freed hb hp =>
    ⟨exec_recoveryEnd hb hp lines, exec_recoveryTimeout hb hp lines⟩, fun s lines a hb ha => ?_⟩
  · have h : s.bus.onBus = some a := Bus.onBus_some_iff.2 ⟨hb, ha⟩
    have hcan := Attempt.canStall_iff hi
    refine ⟨fun hbyte => ?_, fun hrep => ?_, fun hstart => ?_, fun k => exec_stall_elsewhere h⟩
    · have hstall : a.canStall = true := hcan.2 (.inl hbyte)
      exact ⟨exec_stall_reported h hstall, exec_stall_abandoned h hstall⟩
    · refine ⟨fun hab => exec_stall_impossible h ?_ _,
        fun hab => exec_stall_abandoned h (hcan.2 (.inr ⟨hrep, hab⟩)) hab⟩
      simp [hcan, hrep, hab]
    · exact exec_stall_impossible h (by simp [hcan, hstart]) _
  · have h : s.bus.onBus = some a := Bus.onBus_some_iff.2 ⟨hb, ha⟩
    refine ⟨fun hab => (exec_abandonedAttemptEnd h _ lines).trans (if_pos ⟨rfl, hab⟩), fun k hk => ?_⟩
    rw [exec_abandonedAttemptEnd h, if_neg]
    rintro ⟨hpos, hab⟩
    exact hk.elim (· hpos.symm) (by simp [hab])

/-! ### The bytes of a profile and of a speed (R176) -/

theorem decodeBool_iff {b : Byte} {v : Bool} : decodeBool b = some v ↔ boolByte v = b := by
  constructor
  · intro h
    unfold decodeBool at h
    split_ifs at h with h0 h1
    · cases h; exact h0.symm
    · cases h; exact h1.symm
  · rintro rfl
    cases v <;> rfl

theorem decodeBool_none {b : Byte} (h : 1 < b.toNat) : decodeBool b = none := by
  have h0 : b ≠ 0 := by bv_omega
  have h1 : b ≠ 1 := by bv_omega
  simp only [decodeBool, h0, h1, if_false]

theorem decodeForm_iff {b : Byte} {form : PayloadForm} : decodeForm b = some form ↔ form.code = b := by
  constructor
  · intro h
    unfold decodeForm at h
    split_ifs at h with h0 h1 h2
    · cases h; exact h0.symm
    · cases h; exact h1.symm
    · cases h; exact h2.symm
  · rintro rfl
    cases form <;> rfl

theorem decodeSpeed_code (v : BusSpeed) : decodeSpeed v.code = some v := by
  cases v <;> rfl

theorem decodeSpeed_none {b : Byte} (h1 : b ≠ 1) (h4 : b ≠ 4) : decodeSpeed b = none := by
  simp only [decodeSpeed, h1, h4, if_false]

/-- Arguments of SET PROFILE that make no valid profile: step 2 of R123, with the codes of R176. -/
def profileBytesBad (args : List Byte) : Prop :=
  (argByte args 2).toNat < 0x08 ∨ 0x77 < (argByte args 2).toNat ∨ 2 < (argByte args 4).toNat ∨
    1 < (argByte args 6).toNat ∨ (argByte args 6 = 1 ∧ argByte args 4 ≠ 0) ∨
    3 < (argByte args 7).toNat

/-- The profile that the arguments of SET PROFILE spell, with the fields that have codes decoded. -/
def spelledProfile (args : List Byte) (form : PayloadForm) (retries : Fin 4) (verify : Bool) : Profile :=
  { target := (argByte args 2).setWidth 7
    register := argByte args 3
    form := form
    fixedValue := argByte args 5
    verify := verify
    retries := retries }

section Spelled

variable {args : List Byte} {form : PayloadForm} {retries : Fin 4} {verify : Bool}
  (hform : form.code = argByte args 4) (hretries : retries.val = (argByte args 7).toNat)
  (hverify : boolByte verify = argByte args 6)
include hform hretries hverify

/-- With the codes in range, what is left to refuse is the target and the verify of another form. -/
theorem profileBytesBad_iff : profileBytesBad args ↔
    argByte args 2 < 0x08 ∨ 0x77 < argByte args 2 ∨ (verify = true ∧ form ≠ .fixed) := by
  have hform' : (argByte args 4 = 0 ↔ form = .fixed) ∧ (argByte args 4).toNat ≤ 2 := by
    rw [← hform]
    cases form <;> decide
  have hverify' : (argByte args 6 = 1 ↔ verify = true) ∧ (argByte args 6).toNat ≤ 1 := by
    rw [← hverify]
    cases verify <;> decide
  have hretries' : (argByte args 7).toNat ≤ 3 := by omega
  simp only [profileBytesBad, hverify'.1, ne_eq, hform'.1, Nat.not_lt.2 hform'.2, Nat.not_lt.2 hverify'.2,
    Nat.not_lt.2 hretries', BitVec.lt_def, false_or, or_false]
  rfl

theorem decodeProfile_spelled (h : ¬ profileBytesBad args) :
    decodeProfile args = some (spelledProfile args form retries verify) := by
  simp only [decodeProfile, decodeForm_iff.2 hform, decodeBool_iff.2 hverify, ranged_some hretries.symm]
  exact if_neg (mt (profileBytesBad_iff hform hretries hverify).2 h)

/-- The answer to a SET PROFILE with valid yes gives the arguments back. -/
theorem profileBytes_spelled {n : ProfileNo} (hn : n.val = (argByte args 0).toNat)
    (hvalid : argByte args 1 = 1) (htarget : (argByte args 2).toNat ≤ 0x77) (hlen : args.length = 8) :
    profileBytes n (some (spelledProfile args form retries verify)) = args := by
  have hseven : ((argByte args 2).setWidth 7).setWidth 8 = argByte args 2 := by bv_omega
  rw [profileBytes, spelledProfile]
  simp only [hseven, hform, hverify, natByte_of_toNat hn, natByte_of_toNat hretries]
  rw [← hvalid]
  match args, hlen with
  | [_, _, _, _, _, _, _, _], _ => rfl

end Spelled

theorem decodeProfile_bad {args : List Byte} (h : profileBytesBad args) : decodeProfile args = none := by
  unfold decodeProfile
  split
  · next form verify retries hform hverify hretries =>
    exact if_pos ((profileBytesBad_iff (decodeForm_iff.1 hform) (ranged_eq_some_iff.1 hretries).symm
      (decodeBool_iff.1 hverify)).1 h)
  · rfl

/-! ### SET PROFILE (R123) -/

/-- The scan of the directory finds a binding that names the profile. -/
theorem State.profileNamed_iff {s : State} {n : ProfileNo} :
    s.profileNamed n = true ↔ ∃ i e, s.entry i = some e ∧ e.profile = some n := by
  simp only [State.profileNamed, any_toList_iff, Option.any_eq_true, decide_eq_true_eq]
  rfl

section SetProfile

variable {s : State} {args : List Byte} (p : PortIx)

theorem setProfile_outOfRange (h : 7 < (argByte args 0).toNat ∨ 1 < (argByte args 1).toNat) :
    setProfile p args s = s.refuse .badArg := by
  rcases h with hn | hvalid
  · simp only [setProfile, ranged_none hn]
  · cases hn : ranged 8 (argByte args 0) <;> simp only [setProfile, hn, decodeBool_none hvalid]

variable {n : ProfileNo} (hn : n.val = (argByte args 0).toNat)
include hn

theorem setProfile_bad (hvalid : argByte args 1 = 1) (hbad : profileBytesBad args) :
    setProfile p args s = s.refuse .badArg := by
  simp only [setProfile, ranged_some hn.symm, (decodeBool_iff (v := true)).2 hvalid.symm,
    decodeProfile_bad hbad]

theorem setProfile_valid (hvalid : argByte args 1 = 1) {q : Profile} (hq : decodeProfile args = some q) :
    setProfile p args s = s.writeProfile n (some q) := by
  simp only [setProfile, ranged_some hn.symm, (decodeBool_iff (v := true)).2 hvalid.symm, hq]

theorem setProfile_invalid (hvalid : argByte args 1 = 0) : setProfile p args s =
    if s.profileNamed n then s.refuse .busy else s.writeProfile n none := by
  simp only [setProfile, ranged_some hn.symm, (decodeBool_iff (v := false)).2 hvalid.symm]

end SetProfile

theorem exec_setProfile {s : State} {args : List Byte}
    (hnext : s.nextTake = some (4, ⟨Code.setProfile, args⟩)) (hlen : args.length = 8) {a : Answer}
    (hbody : setProfile 4 args s = a) :
    exec .setProfile s = .next (a.state.answer 4 Code.setProfile a.status a.fields) :=
  congrArg _ (State.management_answers hnext hlen hbody)

/-- Settles O48: the checks in their order, and the profile written or made invalid. -/
theorem setProfileWritesTheTable : Obligations.SetProfileWritesTheTable := by
  intro s p args hnext
  refine ⟨fun hp => congrArg _ (State.management_denied hnext hp setProfile), ?_⟩
  rintro rfl hlen answered target bad
  refine ⟨fun hrange => exec_setProfile hnext hlen (setProfile_outOfRange 4 hrange), fun n hn =>
    ⟨fun hvalid hbad => exec_setProfile hnext hlen (setProfile_bad 4 hn hvalid hbad),
      fun hvalid hgood form retries verify hform hretries hverify => ?_,
      fun hvalid hnamed => ?_, fun hvalid hfree => ?_⟩⟩
  · have hdecoded := decodeProfile_spelled hform hretries hverify hgood
    have htarget : (argByte args 2).toNat ≤ 0x77 := Nat.not_lt.1 fun hlt => hgood (.inr (.inl hlt))
    have hwritten := exec_setProfile hnext hlen (setProfile_valid 4 hn hvalid hdecoded)
    rwa [State.writeProfile, profileBytes_spelled hform hretries hverify hn hvalid htarget hlen]
      at hwritten
  · exact exec_setProfile hnext hlen
      ((setProfile_invalid 4 hn hvalid).trans (if_pos (State.profileNamed_iff.2 hnamed)))
  · have hwritten := exec_setProfile hnext hlen
      ((setProfile_invalid 4 hn hvalid).trans (if_neg (mt State.profileNamed_iff.1 hfree)))
    rwa [State.writeProfile, profileBytes, natByte_of_toNat hn] at hwritten

/-! ### SET BUS (R126) -/

theorem setBus_badArg {s : State} {args : List Byte} (h1 : argByte args 0 ≠ 1) (h4 : argByte args 0 ≠ 4)
    (p : PortIx) : setBus p args s = s.refuse .badArg := by
  simp only [setBus, decodeSpeed_none h1 h4]

theorem setBus_speed {s : State} {args : List Byte} {v : BusSpeed} (hv : argByte args 0 = v.code)
    (p : PortIx) : setBus p args s =
      { state := { s with bus := { s.bus with speed := v } }, status := .ok, fields := [v.code] } := by
  simp only [setBus, hv, decodeSpeed_code]

/-- Settles O49: the speed byte is decoded, and the speed alone is written. -/
theorem setBusSetsTheSpeed : Obligations.SetBusSetsTheSpeed := by
  intro s p args hnext
  refine ⟨fun hp => congrArg _ (State.management_denied hnext hp setBus), ?_⟩
  rintro rfl hlen
  refine ⟨fun h1 h4 => congrArg _ (State.management_answers hnext hlen (setBus_badArg h1 h4 4)),
    fun v hv => ?_⟩
  have hcode : argByte args 0 = v.code := by
    rw [hv]
    cases v <;> rfl
  rw [hcode]
  exact congrArg _ (State.management_answers hnext hlen (setBus_speed hcode 4))

end Sys2Proof.Machine
end

section
/-! SUPPORT. The grant lines: the entry that holds a line, the level of a line and its pin, and SET LINE. -/

namespace Sys2Proof.Machine

/-! ### The entry that holds a line (R13) -/

theorem State.findLine_none_iff {s : State} {n : LineNo} :
    s.findLine n = none ↔ ∀ i e b, s.entry i = some e → e.line = some b → b.line ≠ n := by
  unfold State.findLine
  simp only [List.findSome?_eq_none_iff, List.mem_finRange, forall_const]
  refine forall_congr' fun i => ?_
  cases s.entry i with
  | none => simp
  | some e => simp [forall_comm (α := Entry)]

theorem State.findLine_some {s : State} {n : LineNo} {i : DirSlot} {e : Entry} {mode : LineMode}
    (h : s.findLine n = some (i, e, mode)) : s.entry i = some e ∧ e.line = some ⟨n, mode⟩ := by
  unfold State.findLine at h
  obtain ⟨j, -, hj⟩ := List.exists_of_findSome?_eq_some h
  split at hj
  · next f hf =>
    obtain ⟨b, hb, hbn⟩ := Option.bind_eq_some_iff.1 hj
    split_ifs at hbn with hline
    cases hbn
    subst hline
    exact ⟨hf, hb⟩
  · cases hj

/-- Under the laws of the directory the search finds the one entry that holds the line. -/
theorem State.directoryLaws.findLine_iff {s : State} (h : s.directoryLaws) {n : LineNo} {i : DirSlot}
    {e : Entry} {mode : LineMode} : s.findLine n = some (i, e, mode) ↔
      s.entry i = some e ∧ e.line = some ⟨n, mode⟩ := by
  refine ⟨State.findLine_some, fun ⟨he, hb⟩ => ?_⟩
  obtain ⟨-, -, hlines⟩ := h
  cases hf : s.findLine n with
  | none => exact absurd rfl (State.findLine_none_iff.1 hf i e _ he hb)
  | some found =>
    obtain ⟨j, f, m⟩ := found
    obtain ⟨hj, hm⟩ := State.findLine_some hf
    cases hlines i j e f _ _ he hj hb hm rfl
    cases he.symm.trans hj
    cases hb.symm.trans hm
    rfl

/-! ### The level of a line (R136, R138) -/

theorem LineMode.accepts_iff {mode : LineMode} {st : EntryState} : mode.accepts st = true ↔
    st = .heldExclusive ∨ (st = .heldShared ∧ mode = .any) := by
  cases mode <;> simp [LineMode.accepts]

theorem State.lineActive_iff {s : State} {n : LineNo} : s.lineActive n = true ↔
    (s.lines.get n).enabled = true ∧
      ∃ i e mode, s.findLine n = some (i, e, mode) ∧ mode.accepts e.state = true := by
  rw [State.lineActive, Bool.and_eq_true]
  refine and_congr_right fun _ => ?_
  cases s.findLine n with
  | none => simp
  | some found =>
    obtain ⟨i, e, mode⟩ := found
    simp

/-- Settles O50: the search of a line's level finds the entry of R138, and the polarity gives the pin. -/
theorem grantLinesFollowTheirEntries : Obligations.GrantLinesFollowTheirEntries := by
  refine ⟨fun s n h => ?_, fun s n => ?_⟩
  · rw [State.lineActive_iff]
    refine and_congr_right fun _ => exists_congr fun i => exists_congr fun e => ?_
    simp only [h.findLine_iff, LineMode.accepts_iff]
    constructor
    · rintro ⟨mode, ⟨he, hb⟩, haccepts⟩
      exact ⟨⟨n, mode⟩, he, hb, rfl, haccepts⟩
    · rintro ⟨b, he, hb, rfl, haccepts⟩
      exact ⟨b.mode, ⟨he, hb⟩, haccepts⟩
  · rw [State.lineHigh]
    cases (s.lines.get n).polarity with
    | activeHigh => rfl
    | activeLow => rfl

/-! ### SET LINE (R137) -/

theorem decodePolarity_iff {b : Byte} {polarity : Polarity} :
    decodePolarity b = some polarity ↔ polarity.code = b := by
  constructor
  · intro h
    unfold decodePolarity at h
    split_ifs at h with h0 h1
    · cases h; exact h0.symm
    · cases h; exact h1.symm
  · rintro rfl
    cases polarity <;> rfl

theorem decodePolarity_none {b : Byte} (h : 1 < b.toNat) : decodePolarity b = none := by
  have h0 : b ≠ 0 := by bv_omega
  have h1 : b ≠ 1 := by bv_omega
  simp only [decodePolarity, h0, h1, if_false]

/-- The two bytes of the answer to SET LINE that name the binding which the search finds. -/
def bindingBytes : Option (DirSlot × Entry × LineMode) → List Byte
  | none => [0xFF, 0xFF]
  | some (i, _, mode) => [natByte i, mode.code]

theorem setLine_outOfRange {s : State} {args : List Byte} (h : 15 < (argByte args 0).toNat ∨
    1 < (argByte args 1).toNat ∨ 1 < (argByte args 2).toNat) (p : PortIx) :
    setLine p args s = s.refuse .badArg := by
  unfold setLine
  split
  · next n polarity on hn hpolarity hon =>
    rcases h with hbad | hbad | hbad
    · rw [ranged_none hbad] at hn; cases hn
    · rw [decodePolarity_none hbad] at hpolarity; cases hpolarity
    · rw [decodeBool_none hbad] at hon; cases hon
  · rfl

/-- The line takes the arguments, and the answer gives them back with the binding and the pin. -/
theorem setLine_configures {s t : State} {args : List Byte} {n : LineNo} {polarity : Polarity} {on : Bool}
    (hlen : args.length = 3) (hn : n.val = (argByte args 0).toNat)
    (hpolarity : polarity.code = argByte args 1) (hon : boolByte on = argByte args 2)
    (ht : t = { s with lines := put s.lines n { polarity := polarity, enabled := on } }) (p : PortIx) :
    setLine p args s =
      { state := t
        status := .ok
        fields := args ++ (bindingBytes (s.findLine n) ++ [boolByte (t.lineHigh n)]) } := by
  subst ht
  have hargs : [natByte n, polarity.code, boolByte on] = args := by
    rw [natByte_of_toNat hn, hpolarity, hon]
    match args, hlen with
    | [_, _, _], _ => rfl
  simp only [setLine, ranged_some hn.symm, decodePolarity_iff.2 hpolarity, decodeBool_iff.2 hon, hargs,
    List.append_assoc]
  rfl

/-- Settles O51: the checks in their order, and the answer with the binding that the search finds. -/
theorem setLineConfiguresTheLine : Obligations.SetLineConfiguresTheLine := by
  intro s p args hnext
  refine ⟨fun hp => congrArg _ (State.management_denied hnext hp setLine), ?_⟩
  rintro rfl hlen
  refine ⟨fun hbad => congrArg _ (State.management_answers hnext hlen (setLine_outOfRange hbad 4)),
    fun n polarity on t hn hpolarity hon ht => ?_⟩
  have hanswer : exec .setLine s = .next (t.answer 4 Code.setLine .ok
      (args ++ (bindingBytes (s.findLine n) ++ [boolByte (t.lineHigh n)]))) :=
    congrArg _ (State.management_answers hnext hlen
      (setLine_configures hlen hn hpolarity hon ht 4))
  refine ⟨fun hunbound => ?_, fun i e b hlaws he hb hline => ?_⟩
  · rwa [State.findLine_none_iff.2 hunbound] at hanswer
  · subst hline
    rwa [hlaws.findLine_iff.2 ⟨he, hb⟩] at hanswer

end Sys2Proof.Machine
end

section
/-! SUPPORT. Notice levels: when a port's is asserted, the flags of a status byte, and SET THRESHOLD. -/

namespace Sys2Proof.Machine

/-! ### The bits of a presence byte (R174, R177) -/

/-- Bit `k` of the byte is flag `k`; the bits past the flags are 0. -/
theorem presence_getLsbD {flags : List Bool} {k : Nat} (hk : k < 8) :
    (presence flags).getLsbD k = flags.getD k false := by
  have hfold : ∀ j, (flags.foldr (fun (b : Bool) acc => 2 * acc + b.toNat) 0).testBit j =
      flags.getD j false := by
    induction flags with
    | nil => exact Nat.zero_testBit
    | cons b flags ih =>
      intro j
      rw [List.foldr_cons, ← Nat.bit_val]
      cases j with
      | zero => exact Nat.testBit_bit_zero b _
      | succ j => exact (Nat.testBit_bit_succ j b _).trans (ih j)
  rw [presence, natByte, BitVec.getLsbD_ofNat, hfold, decide_eq_true hk, Bool.true_and]

/-! ### The notice level (R145) -/

/-- The priorities pending for a session are those of its own notice and of its records' notices. -/
theorem State.mem_pendingPriorities {s : State} {x : Session} {v : Priority} :
    v ∈ s.pendingPriorities x ↔
      (∃ k, x.notice = some k ∧ x.noticePriority k = v) ∨
        ∃ l r n, l ∈ x.records ∧ s.record l = some r ∧ r.notice = some n ∧ n.priority = v := by
  simp only [State.pendingPriorities, List.mem_append, Option.mem_toList, Option.map_eq_some_iff,
    List.mem_filterMap, Option.bind_eq_some_iff, ← exists_and_left]

/-- A session's own notice above the threshold `v`, by its kind (R90, R96). -/
theorem Session.exists_noticePriority_iff {x : Session} {v : Priority} :
    (∃ k, x.notice = some k ∧ v < x.noticePriority k) ↔
      (x.notice = some .sessionWarning ∧ v < x.warnPriority) ∨
        (x.notice = some .sessionLapsed ∧ v < 7) := by
  constructor
  · rintro ⟨k, hk, hv⟩
    cases k with
    | sessionWarning => exact .inl ⟨hk, hv⟩
    | sessionLapsed => exact .inr ⟨hk, hv⟩
  · rintro (⟨hk, hv⟩ | ⟨hk, hv⟩)
    · exact ⟨_, hk, hv⟩
    · exact ⟨_, hk, hv⟩

theorem State.noticeLevel_iff {s : State} {p : PortIx} : s.noticeLevel p = true ↔
    ∃ i x, s.session i = some x ∧ x.port = p ∧ ∃ v ∈ s.pendingPriorities x, s.thresholds.get p < v := by
  rw [State.noticeLevel, any_toList_iff]
  refine exists_congr fun i => ?_
  rw [State.session, State.sessionCell]
  cases (s.sessions.get i).session with
  | none => simp
  | some x => simp

theorem State.statusByte_notice (s : State) (p : PortIx) :
    (s.statusByte p).getLsbD 3 = s.noticeLevel p :=
  presence_getLsbD (by decide)

/-- Settles O36: the search finds a session with a pending priority above the threshold, and that
priority is one of its own notice or of a record's. -/
theorem noticeLevelFollowsThresholdAndNotices : Obligations.NoticeLevelFollowsThresholdAndNotices := by
  refine ⟨fun s p => ?_, State.statusByte_notice, fun _ _ => rfl⟩
  rw [State.noticeLevel_iff]
  refine exists_congr fun i => exists_congr fun x => and_congr_right fun _ => and_congr_right fun _ => ?_
  rw [← or_assoc, ← Session.exists_noticePriority_iff]
  constructor
  · rintro ⟨v, hpending, hv⟩
    rcases State.mem_pendingPriorities.1 hpending with ⟨k, hk, rfl⟩ | ⟨l, r, n, hl, hr, hn, rfl⟩
    · exact .inl ⟨k, hk, hv⟩
    · exact .inr ⟨l, r, n, hl, hr, hn, hv⟩
  · rintro (⟨k, hk, hv⟩ | ⟨l, r, n, hl, hr, hn, hv⟩)
    · exact ⟨_, State.mem_pendingPriorities.2 (.inl ⟨k, hk, rfl⟩), hv⟩
    · exact ⟨_, State.mem_pendingPriorities.2 (.inr ⟨l, r, n, hl, hr, hn, rfl⟩), hv⟩

/-! ### SET THRESHOLD (R146) -/

theorem setThreshold_outOfRange {s : State} {args : List Byte}
    (h : 4 < (argByte args 0).toNat ∨ 7 < (argByte args 1).toNat) (p : PortIx) :
    setThreshold p args s = s.refuse .badArg := by
  unfold setThreshold
  split
  · next q v hq hv =>
    rcases h with hbad | hbad
    · rw [ranged_none hbad] at hq; cases hq
    · rw [ranged_none hbad] at hv; cases hv
  · rfl

/-- The threshold is written, and the level in the answer is the one under it. -/
theorem setThreshold_writes {s t : State} {args : List Byte} {q : PortIx} {v : Priority}
    (hq : q.val = (argByte args 0).toNat) (hv : v.val = (argByte args 1).toNat)
    (ht : t = { s with thresholds := put s.thresholds q v }) (p : PortIx) :
    setThreshold p args s =
      { state := t
        status := .ok
        fields := [argByte args 0, argByte args 1, boolByte (t.noticeLevel q)] } := by
  subst ht
  simp only [setThreshold, ranged_some hq.symm, ranged_some hv.symm, natByte_of_toNat hq,
    natByte_of_toNat hv]

/-- Settles O37: the checks in their order, and the threshold written before the level is formed. -/
theorem setThresholdFormsTheLevelAfresh : Obligations.SetThresholdFormsTheLevelAfresh := by
  intro s p args hnext
  refine ⟨fun hp => congrArg _ (State.management_denied hnext hp setThreshold), ?_⟩
  rintro rfl hlen
  refine ⟨fun hbad => congrArg _ (State.management_answers hnext hlen (setThreshold_outOfRange hbad 4)),
    fun q v hq hv => ⟨_, rfl, get_put_self _ _ _, fun o ho => get_put_ne _ _ ho, ?_⟩⟩
  exact congrArg _ (State.management_answers hnext hlen (setThreshold_writes hq hv rfl 4))

end Sys2Proof.Machine
end

section
/-! SUPPORT. Frames on the wire: which bytes are malformed, the frame that good bytes spell, and the
bytes of fields in arguments and answers. -/

namespace Sys2Proof.Machine

/-! ### Received bytes (R161, R162) -/

/-- The code and the arguments that received bytes spell when they are not malformed (11.2). -/
def Frame.spelled (bytes : List Byte) : Frame :=
  { code := bytes.headD 0, args := (bytes.drop 2).dropLast }

/-- The check of R162 on bytes that hold a code and a length. -/
theorem malformed_cons_iff {code len : Byte} {rest : List Byte} {loose : Nat} :
    malformed (code :: len :: rest) loose ↔ ¬ (len.toNat ≤ 24 ∧ rest.length = len.toNat + 1 ∧ loose = 0 ∧
      crc8 (code :: len :: rest).dropLast = rest.getLast?.getD 0) := by
  by_cases hlen : rest.length = len.toNat + 1
  · have hlast : rest.getD len.toNat 0 = rest.getLast?.getD 0 := by
      rw [List.getLast?_eq_getElem?, List.getD_eq_getElem?_getD, hlen, Nat.add_sub_cancel]
    have hcovered : (code :: len :: rest).take (len.toNat + 1 + 1) = (code :: len :: rest).dropLast := by
      rw [List.dropLast_eq_take, ← hlen]
      rfl
    have hsize : ¬ (len.toNat + 1 + 1 + 1 < 2) := by omega
    simp only [malformed, List.length_cons, Nat.add_sub_cancel, hcovered, hlast, List.getD_cons_succ,
      List.getD_cons_zero, hsize, hlen, Nat.lt_irrefl, true_and, false_or, not_and_or, Nat.not_le, ne_eq]
  · have hcount : malformed (code :: len :: rest) loose := by
      simp only [malformed, List.length_cons, List.getD_cons_succ, List.getD_cons_zero]
      omega
    exact iff_of_true hcount fun ⟨_, hn, _⟩ => hlen hn

theorem malformed_of_length {bytes : List Byte} (h : bytes.length < 2) (loose : Nat) :
    malformed bytes loose := .inl h

theorem parseFrame_malformed {bytes : List Byte} {loose : Nat} (h : malformed bytes loose) :
    parseFrame bytes loose = none := by
  match bytes with
  | [] | [_] => rfl
  | _ :: _ :: _ => exact if_neg (malformed_cons_iff.1 h)

theorem parseFrame_spelled {bytes : List Byte} {loose : Nat} (h : ¬ malformed bytes loose) :
    parseFrame bytes loose = some (.spelled bytes) := by
  match bytes with
  | [] | [_] => exact absurd (malformed_of_length (by simp) loose) h
  | _ :: _ :: _ => exact if_pos (not_not.1 (mt malformed_cons_iff.2 h))

theorem malformed_iff {bytes : List Byte} {loose : Nat} :
    malformed bytes loose ↔ parseFrame bytes loose = none := by
  refine ⟨parseFrame_malformed, fun h => by_contra fun hgood => ?_⟩
  rw [parseFrame_spelled hgood] at h
  cases h

/-- A good frame is a RESET PORT frame when its code and its length byte say so (R165). -/
theorem Frame.resetsPort_spelled {bytes : List Byte} {loose : Nat} (h : ¬ malformed bytes loose) :
    (Frame.spelled bytes).resetsPort = true ↔ bytes.headD 0 = 0x0F ∧ bytes.getD 1 0 = 0 := by
  match bytes with
  | [] | [_] => exact absurd (malformed_of_length (by simp) loose) h
  | code :: len :: rest =>
    obtain ⟨-, hlen, -⟩ := not_not.1 (mt malformed_cons_iff.2 h)
    have hargs : rest.dropLast = [] ↔ len = 0 := by
      rw [← List.length_eq_zero_iff, List.length_dropLast, hlen, Nat.add_sub_cancel]
      exact ⟨fun h0 => BitVec.eq_of_toNat_eq h0, fun h0 => congrArg BitVec.toNat h0⟩
    simp [Frame.spelled, Frame.resetsPort, Code.resetPort, hargs]

/-! ### Frames as sent (11.2) -/

/-- The bytes of a frame with any CRC byte: it is malformed unless that byte is the CRC-8. -/
theorem malformed_sent_iff {f : Frame} (hargs : f.args.length ≤ 24) {crc : Byte} :
    malformed ([f.code, natByte f.args.length] ++ f.args ++ [crc]) 0 ↔
      crc8 ([f.code, natByte f.args.length] ++ f.args) ≠ crc := by
  have hlen : (natByte f.args.length).toNat = f.args.length := natByte_toNat (by omega)
  have hcovered : (f.code :: natByte f.args.length :: (f.args ++ [crc])).dropLast =
      [f.code, natByte f.args.length] ++ f.args := by
    rw [← List.cons_append, ← List.cons_append, List.dropLast_concat]
    rfl
  rw [show [f.code, natByte f.args.length] ++ f.args ++ [crc] =
    f.code :: natByte f.args.length :: (f.args ++ [crc]) from rfl, malformed_cons_iff, hcovered]
  simp [hlen, hargs]

theorem Frame.bytes_eq (f : Frame) : f.bytes = [f.code, natByte f.args.length] ++ f.args ++
    [crc8 ([f.code, natByte f.args.length] ++ f.args)] := rfl

theorem Frame.bytes_good {f : Frame} (hargs : f.args.length ≤ 24) : ¬ malformed f.bytes 0 :=
  fun h => (malformed_sent_iff hargs).1 h rfl

theorem Frame.spelled_bytes (f : Frame) : Frame.spelled f.bytes = f := by
  simp [Frame.spelled, Frame.bytes]

theorem parseFrame_bytes {f : Frame} (hargs : f.args.length ≤ 24) : parseFrame f.bytes 0 = some f := by
  rw [parseFrame_spelled (Frame.bytes_good hargs), Frame.spelled_bytes]

/-- A frame with another CRC byte is malformed (R162). -/
theorem malformed_otherCrc {f : Frame} (hargs : f.args.length ≤ 24) {crc : Byte}
    (h : crc ≠ f.bytes.getLastD 0) : malformed (f.bytes.dropLast ++ [crc]) 0 := by
  rw [Frame.bytes_eq] at h ⊢
  rw [List.getLastD_concat] at h
  rw [List.dropLast_concat]
  exact (malformed_sent_iff hargs).2 h.symm

/-! ### The CRC-8 (R175) -/

theorem crc8_concat (bytes : List Byte) (b : Byte) : crc8 (bytes ++ [b]) = crcByte (crc8 bytes) b := by
  rw [crc8, List.foldl_concat, ← crc8]

/-! ### Fields of 16 and 32 bits (R177) -/

theorem extractLsb'_eq_natByte {n : Nat} (v : BitVec n) (k : Nat) :
    v.extractLsb' k 8 = natByte (v.toNat / 2 ^ k) := by
  rw [natByte, ← Nat.shiftRight_eq_div_pow]
  rfl

theorem wordBytes_eq (w : Word) : wordBytes w =
    [natByte (w.toNat / 2 ^ 24), natByte (w.toNat / 2 ^ 16), natByte (w.toNat / 2 ^ 8),
      natByte w.toNat] := by
  simp only [wordBytes, extractLsb'_eq_natByte, Nat.pow_zero, Nat.div_one]

theorem halfBytes_eq (h : Half) : halfBytes h = [natByte (h.toNat / 2 ^ 8), natByte h.toNat] := by
  simp only [halfBytes, extractLsb'_eq_natByte, Nat.pow_zero, Nat.div_one]

/-- The argument byte `k` places into a field that stands between others. -/
theorem argByte_field (before after : List Byte) {field : List Byte} {k : Nat} (hk : k < field.length) :
    argByte (before ++ field ++ after) (before.length + k) = field.getD k 0 := by
  rw [argByte, List.getD_append _ _ _ _ (by rw [List.length_append]; omega),
    List.getD_append_right _ _ _ _ (Nat.le_add_right _ _), Nat.add_sub_cancel_left]

theorem wordOf_wordBytes (w : Word) : wordOf (w.extractLsb' 24 8) (w.extractLsb' 16 8)
    (w.extractLsb' 8 8) (w.extractLsb' 0 8) = w := by
  unfold wordOf
  rw [BitVec.extractLsb'_append_extractLsb'_eq_extractLsb' (start₂ := 24) (by rfl),
    BitVec.extractLsb'_append_extractLsb'_eq_extractLsb' (by rfl),
    BitVec.extractLsb'_append_extractLsb'_eq_extractLsb' (by rfl)]
  exact BitVec.extractLsb'_eq_self

theorem halfOf_halfBytes (h : Half) : halfOf (h.extractLsb' 8 8) (h.extractLsb' 0 8) = h := by
  unfold halfOf
  rw [BitVec.extractLsb'_append_extractLsb'_eq_extractLsb' (by rfl)]
  exact BitVec.extractLsb'_eq_self

theorem argWord_wordBytes (w : Word) (before after : List Byte) :
    argWord (before ++ wordBytes w ++ after) before.length = w := by
  have hbyte : ∀ k < 4, argByte (before ++ wordBytes w ++ after) (before.length + k) =
    (wordBytes w).getD k 0 := fun k hk => argByte_field before after hk
  rw [argWord, hbyte 1 (by decide), hbyte 2 (by decide), hbyte 3 (by decide), ← before.length.add_zero,
    hbyte 0 (by decide)]
  exact wordOf_wordBytes w

theorem argHalf_halfBytes (h : Half) (before after : List Byte) :
    argHalf (before ++ halfBytes h ++ after) before.length = h := by
  have hbyte : ∀ k < 2, argByte (before ++ halfBytes h ++ after) (before.length + k) =
    (halfBytes h).getD k 0 := fun k hk => argByte_field before after hk
  rw [argHalf, hbyte 1 (by decide), ← before.length.add_zero, hbyte 0 (by decide)]
  exact halfOf_halfBytes h

/-- Settles O53: the bytes of a frame spell it and end in its CRC-8, the fields are cut and joined byte
by byte, and each code stands in its table. -/
theorem framesSurviveTheWire : Obligations.FramesSurviveTheWire :=
  ⟨Frame.bytes_eq, fun _ h => ⟨Frame.bytes_good h, parseFrame_bytes h⟩, fun _ _ h => malformed_otherCrc h,
    fun _ _ => malformed_iff, ⟨rfl, crc8_concat⟩, rfl, rfl,
    fun w h => ⟨wordBytes_eq w, halfBytes_eq h, fun before after =>
      ⟨argWord_wordBytes w before after, argHalf_halfBytes h before after⟩⟩,
    rfl, rfl, rfl, rfl, rfl, rfl, rfl, rfl, rfl, rfl, rfl⟩

end Sys2Proof.Machine
end

section
/-! SUPPORT. Transactions at the ports: what a port does with received bytes, the rise of chip select, the
status byte, and the reads and writes of the management port. -/

namespace Sys2Proof.Machine

/-! ### Received bytes judged (R162, R163, R165) -/

/-- Received bytes that are a good RESET PORT frame (R165). -/
def spellsReset (bytes : List Byte) : Prop := bytes.headD 0 = 0x0F ∧ bytes.getD 1 0 = 0

section Judged

variable {x : Port} {bytes : List Byte} {loose : Nat}

/-- Whatever the port holds (R165). -/
theorem Port.judge_reset (h : ¬ malformed bytes loose) (hr : spellsReset bytes) :
    x.judge bytes loose = x.taken := by
  simp only [Port.judge, parseFrame_spelled h]
  exact if_pos ((Frame.resetsPort_spelled h).2 hr)

theorem Port.judge_idle_malformed (hx : x.state = .idle) (h : malformed bytes loose) :
    x.judge bytes loose = { x with state := formatAnswer bytes } := by
  simp only [Port.judge, parseFrame_malformed h, hx]
  rfl

theorem Port.judge_idle_held (hx : x.state = .idle) (h : ¬ malformed bytes loose)
    (hr : ¬ spellsReset bytes) : x.judge bytes loose =
      { x with state := .pending (.spelled bytes), rejected := false, resetSeen := false } := by
  simp only [Port.judge, parseFrame_spelled h, hx]
  exact if_neg (mt (Frame.resetsPort_spelled h).1 hr)

/-- A busy port discards every frame but a good RESET PORT (R163). -/
theorem Port.judge_busy (hx : x.state ≠ .idle) (h : ¬ (¬ malformed bytes loose ∧ spellsReset bytes)) :
    x.judge bytes loose = { x with rejected := true } := by
  by_cases hm : malformed bytes loose
  · cases hstate : x.state with
    | idle => exact absurd hstate hx
    | pending f | ready r => simp only [Port.judge, parseFrame_malformed hm, hstate]
  · have hr : (Frame.spelled bytes).resetsPort = false :=
      Bool.eq_false_iff.2 fun hr => h ⟨hm, (Frame.resetsPort_spelled hm).1 hr⟩
    cases hstate : x.state with
    | idle => exact absurd hstate hx
    | pending f | ready r =>
      simp only [Port.judge, parseFrame_spelled hm, hr, hstate, Bool.false_eq_true, if_false]

end Judged

theorem resetPortFrame_good : ¬ malformed resetPortFrame.bytes 0 := Frame.bytes_good (by decide)

theorem resetPortFrame_resets : spellsReset resetPortFrame.bytes := ⟨rfl, rfl⟩

/-! ### Responses read (R164, R172) -/

theorem Port.heldReply_ready {x : Port} {r : Reply} (h : x.state = .ready r) : x.heldReply = some r := by
  unfold Port.heldReply
  rw [h]

/-- A READ that sends a response: the one its type byte found, or the one held now. -/
theorem Transaction.replySent_some {u : Transaction} {x : Port} {r : Reply}
    (h : u.sending = some (some r) ∨ (u.sending = none ∧ x.state = .ready r)) :
    u.replySent x = some r := by
  unfold Transaction.replySent
  rcases h with hs | ⟨hs, hx⟩
  · rw [hs]; rfl
  · rw [hs]; exact Port.heldReply_ready hx

/-- A READ that sends a length of 0. -/
theorem Transaction.replySent_none {u : Transaction} {x : Port}
    (h : u.sending = some none ∨ (u.sending = none ∧ ∀ r, x.state ≠ .ready r)) :
    u.replySent x = none := by
  unfold Transaction.replySent
  rcases h with hs | ⟨hs, hx⟩
  · rw [hs]; rfl
  · rw [hs]; exact Port.heldReply_none hx

theorem Port.afterRead_none (x : Port) (clocked : Nat) : x.afterRead none clocked = x := rfl

theorem Port.afterRead_ready {x : Port} {q : Reply} (hx : x.state = .ready q) (r : Reply)
    (clocked : Nat) : x.afterRead (some r) clocked =
      { x with state := if r.readLength ≤ clocked then .idle else .ready q } := by
  simp only [Port.afterRead, hx]
  split
  · rfl
  · rw [← hx]

/-- A port that a warm reset has meanwhile taken out of READY (R172). -/
theorem Port.afterRead_other {x : Port} (hx : ∀ q, x.state ≠ .ready q) (held : Option Reply)
    (clocked : Nat) : x.afterRead held clocked = x := by
  unfold Port.afterRead
  split
  · next q hq => exact absurd hq (hx q)
  · rfl

/-! ### The rise of chip select (R161 to R164) -/

/-- A port whose transaction is over. -/
def Port.ended (x : Port) : Port := { x with transaction := none }

section Rise

variable {s : State} {p : PortIx} {u : Transaction} (h : s.transacts p u)
include h

theorem State.riseRead_judged (hu : u.judged = true) (clocked : Nat) :
    s.riseRead p clocked = s.setPort p
      { (s.port p).ended.afterRead (u.replySent (s.port p)) clocked with
        sent := some (u.status :: padded (responseStream (u.replySent (s.port p))) clocked) } := by
  simp only [State.riseRead, State.transactionAt_eq h, hu, if_true, Port.ended]

/-- A COMMAND's bytes are judged, and 0xFF is sent meanwhile. -/
theorem State.riseCommand_command (hu : u.judged = true) (hs : u.sending = none) (bytes : List Byte)
    (loose : Nat) : s.riseCommand p (typeCommand :: bytes) loose = s.setPort p
      { (s.port p).ended.judge bytes loose with
        sent := some (u.status :: List.replicate bytes.length 0xFF) } := by
  have htype : typeCommand ≠ typeRead := by decide
  simp only [State.riseCommand, State.transactionAt_eq h, hu, hs, htype, Option.isSome_none,
    Bool.false_eq_true, if_false, if_true, Port.ended]

/-- A type byte that is neither COMMAND nor READ is a STATUS transaction's. -/
theorem State.riseCommand_status (hu : u.judged = true) (hs : u.sending = none) {type : Byte}
    (hc : type ≠ typeCommand) (hr : type ≠ typeRead) (bytes : List Byte) (loose : Nat) :
    s.riseCommand p (type :: bytes) loose = s.setPort p
      { s.port p with
        transaction := none
        sent := some (u.status :: List.replicate bytes.length 0xFF) } := by
  simp only [State.riseCommand, State.transactionAt_eq h, hu, hs, hc, hr, Option.isSome_none,
    Bool.false_eq_true, if_false, if_true]

theorem State.riseCommand_empty (hu : u.judged = true) (hs : u.sending = none) (loose : Nat) :
    s.riseCommand p [] loose = s.setPort p { s.port p with transaction := none, sent := some [] } := by
  simp only [State.riseCommand, State.transactionAt_eq h, hu, hs, Option.isSome_none,
    Bool.false_eq_true, if_false, if_true]

/-- A transaction that has been a READ's since its type byte does not end as another (log 2). -/
theorem State.riseCommand_typed (hs : u.sending ≠ none) {mosi : List Byte}
    (hm : mosi.head? ≠ some typeRead) (loose : Nat) : s.riseCommand p mosi loose = s := by
  have hsome : u.sending.isSome = true := Option.isSome_iff_ne_none.2 hs
  cases mosi with
  | nil => simp only [State.riseCommand, State.transactionAt_eq h, hsome, if_true]
  | cons type bytes =>
    have htype : type ≠ typeRead := fun ht => hm (congrArg some ht)
    simp only [State.riseCommand, State.transactionAt_eq h, hsome, htype, if_false, if_true]

end Rise

theorem State.riseCommand_read (s : State) (p : PortIx) (bytes : List Byte) (loose : Nat) :
    s.riseCommand p (typeRead :: bytes) loose = s.riseRead p bytes.length := by
  simp only [State.riseCommand, if_true]

/-- The whole of a COMMAND transaction that is judged, at its rise (R162, R163). -/
theorem exec_command {s : State} {p : AgentPort} {u : Transaction} (h : s.transacts (agentIx p) u)
    (hu : u.judged = true) (hs : u.sending = none) (bytes : List Byte) (loose : Nat) :
    exec (.commandTransaction p (.rise (typeCommand :: bytes) loose)) s = .next (s.setPort (agentIx p)
      { (s.port (agentIx p)).ended.judge bytes loose with
        sent := some (u.status :: List.replicate bytes.length 0xFF) }) :=
  congrArg _ (State.riseCommand_command h hu hs bytes loose)

/-- Settles O5: the three outcomes of the judgement at an IDLE port. -/
theorem commandFrameIsJudgedInIdle : Obligations.CommandFrameIsJudgedInIdle := by
  rintro s p x u bytes loose rfl hu hjudged hsending hidle sent rise
  have hrise := exec_command hu hjudged hsending bytes loose
  have hended : (s.port (agentIx p)).ended.state = .idle := hidle
  refine ⟨fun hm => hrise.trans ?_, fun hm hr => hrise.trans ?_, fun hm hr => hrise.trans ?_⟩
  · rw [Port.judge_idle_malformed hended hm]
    rfl
  · rw [Port.judge_reset hm hr]
    rfl
  · rw [Port.judge_idle_held hended hm hr]
    rfl

/-- Settles O6: a busy port takes a RESET PORT and discards every other frame. -/
theorem commandFrameIsDiscardedAtABusyPort : Obligations.CommandFrameIsDiscardedAtABusyPort := by
  rintro s p x u bytes loose rfl hu hjudged hsending hbusy sent rise
  have hrise := exec_command hu hjudged hsending bytes loose
  have hended : (s.port (agentIx p)).ended.state ≠ .idle := hbusy
  refine ⟨fun ⟨hm, hr⟩ => hrise.trans ?_, fun hother => hrise.trans ?_⟩
  · rw [Port.judge_reset hm hr]
    rfl
  · rw [Port.judge_busy hended hother]
    rfl

/-- The type byte of a READ fixes what it sends (R164). -/
theorem exec_readTyped {s : State} {p : AgentPort} {u : Transaction} (h : s.transacts (agentIx p) u) :
    exec (.readTransaction p .typed) s = .next (s.setPort (agentIx p)
      { s.port (agentIx p) with
        transaction := some { u with sending := some (u.replySent (s.port (agentIx p))) } }) := by
  rw [← State.transactionAt_eq h]
  rfl

/-- The whole of a READ that is judged, at its rise (R164). -/
theorem exec_readRise {s : State} {p : AgentPort} {u : Transaction} (h : s.transacts (agentIx p) u)
    (hu : u.judged = true) (clocked : Nat) :
    exec (.readTransaction p (.rise clocked)) s = .next (s.setPort (agentIx p)
      { (s.port (agentIx p)).ended.afterRead (u.replySent (s.port (agentIx p))) clocked with
        sent := some (u.status ::
          padded (responseStream (u.replySent (s.port (agentIx p)))) clocked) }) :=
  congrArg _ (State.riseRead_judged h hu clocked)

/-- Settles O7: the reply is fixed at the type byte, and at the rise it is consumed only at a port that
is still READY. -/
theorem readSendsTheHeldResponse : Obligations.ReadSendsTheHeldResponse := by
  refine ⟨?_, fun s p bytes loose =>
    congrArg Host.Outcome.next (s.riseCommand_read (agentIx p) bytes loose)⟩
  rintro s p x u rfl hu
  rw [exec_readTyped hu]
  refine ⟨fun r hs hx => ?_, fun hs hx => ?_, fun clocked hjudged => ?_⟩
  · rw [Transaction.replySent_some (.inr ⟨hs, hx⟩)]
  · rw [Transaction.replySent_none (.inr ⟨hs, hx⟩)]
  have hrise := exec_readRise hu hjudged clocked
  refine ⟨fun r hr => hrise.trans ?_, fun hnone => hrise.trans ?_⟩
  · rw [Transaction.replySent_some hr]
    cases hx : (s.port (agentIx p)).state with
    | ready q =>
      have hended : (s.port (agentIx p)).ended.state = .ready q := hx
      rw [Port.afterRead_ready hended]
      rfl
    | idle | pending f =>
      have hended : ∀ q, (s.port (agentIx p)).ended.state ≠ .ready q := by simp [Port.ended, hx]
      rw [Port.afterRead_other hended, Port.ended, hx]
      rfl
  · rw [Transaction.replySent_none hnone, Port.afterRead_none]
    rfl

/-! ### The fall of chip select and the status byte (R159, R161, R174) -/

theorem State.fall_first {s : State} {p : PortIx} (h : (s.port p).transaction = none) :
    s.fall p = s.setPort p { s.port p with transaction := some (s.beginTransaction p) } := by
  rw [State.fall, State.transactionAt, h, Option.getD_none]

theorem State.fall_again {s : State} {p : PortIx} {u : Transaction}
    (h : (s.port p).transaction = some u) : s.fall p = s := by
  rw [State.fall, State.transactionAt, h, Option.getD_some, ← h]
  exact s.setPort_port p

/-- The flags that the status byte of port `p` carries in bits 0 to 5. -/
def State.statusFlags (s : State) (p : PortIx) : List Bool :=
  [(s.port p).heldFrame.isSome, (s.port p).heldReply.isSome, (s.port p).rejected, s.noticeLevel p,
    (s.port p).resetSeen, p = 4 && s.alerts.total != 0]

theorem State.statusByte_eq (s : State) (p : PortIx) : s.statusByte p = presence (s.statusFlags p) := by
  unfold State.statusByte State.statusFlags Port.heldFrame Port.heldReply
  dsimp only
  cases (s.port p).state <;> rfl

theorem Port.heldFrame_iff {x : Port} {f : Frame} : x.heldFrame = some f ↔ x.state = .pending f := by
  unfold Port.heldFrame
  cases x.state <;> simp

theorem Port.heldReply_iff {x : Port} {r : Reply} : x.heldReply = some r ↔ x.state = .ready r := by
  unfold Port.heldReply
  cases x.state <;> simp

theorem State.statusByte_bit (s : State) (p : PortIx) {k : Nat} (hk : k < 8) :
    (s.statusByte p).getLsbD k = (s.statusFlags p).getD k false := by
  rw [State.statusByte_eq, presence_getLsbD hk]

/-- Settles O8: the fall captures the status byte, STATUS changes no state of the port, and each flag
stands in its bit. -/
theorem statusByteIsCapturedAtTheFall : Obligations.StatusByteIsCapturedAtTheFall := by
  refine ⟨fun s p h => ?_, fun s p u h => ?_, fun s p u loose hu hjudged hsending => ?_,
    fun s p u mosi loose h hs hm => congrArg _ (State.riseCommand_typed (.inl h) hs hm loose),
    fun s p => ?_⟩
  · exact ⟨congrArg _ (State.fall_first h), congrArg _ (State.fall_first h)⟩
  · exact ⟨congrArg _ (State.fall_again h), congrArg _ (State.fall_again h)⟩
  · exact ⟨fun type bytes hc hr =>
      congrArg _ (State.riseCommand_status hu hjudged hsending hc hr bytes loose),
      congrArg _ (State.riseCommand_empty hu hjudged hsending loose)⟩
  · simp only [← Port.heldFrame_iff, ← Port.heldReply_iff, ← Option.isSome_iff_exists]
    simp only [State.statusByte_bit, Nat.reduceLT]
    simp [State.statusFlags, Nat.pos_iff_ne_zero]

/-! ### The management port (R166, R167) -/

theorem exec_mpWrite_own (s : State) (bytes : List Byte) (loose : Nat) :
    exec (.mpWrite s.mpAddress bytes loose) s = .next (s.mpReceive bytes loose) := if_pos rfl

theorem exec_mpWrite_other {s : State} {addr : BitVec 7} (h : addr ≠ s.mpAddress) (bytes : List Byte)
    (loose : Nat) : exec (.mpWrite addr bytes loose) s = .next s := if_neg h

section Write

variable {s : State} (hs : s.started = true)
include hs

theorem State.mpReceive_idle (hx : (s.port 4).state = .idle) (bytes : List Byte) (loose : Nat) :
    s.mpReceive bytes loose =
      { s.setPort 4 ((s.port 4).judge (receivedBytes bytes) loose) with
        mpAcknowledged := 1 + min bytes.length 27 } := by
  simp only [State.mpReceive, mpIx, hs, if_true, hx]

theorem State.mpReceive_busy (hx : (s.port 4).state ≠ .idle) (bytes : List Byte) (loose : Nat) :
    s.mpReceive bytes loose =
      { s.setPort 4 { s.port 4 with rejected := true } with mpAcknowledged := 0 } := by
  cases hstate : (s.port 4).state with
  | idle => exact absurd hstate hx
  | pending f | ready r => simp only [State.mpReceive, mpIx, hs, hstate, if_true]

end Write

/-- Log 5: the bytes that count as received. -/
theorem receivedBytes_cases (bytes : List Byte) : receivedBytes bytes = bytes ∨
    27 < bytes.length ∧ receivedBytes bytes = bytes.take 27 := by
  unfold receivedBytes
  split
  · exact .inl rfl
  · next hlen =>
    split
    · exact .inl rfl
    · exact .inr ⟨Nat.lt_of_not_le hlen, rfl⟩

theorem receivedBytes_short {bytes : List Byte} (h : bytes.length ≤ 27) : receivedBytes bytes = bytes :=
  if_pos h

/-- Settles O9: the address is refused at a busy port, and at an IDLE one the received bytes are judged. -/
theorem managementWriteIsJudgedOrRefused : Obligations.ManagementWriteIsJudgedOrRefused := by
  rintro s x bytes loose rfl hstarted write acknowledged
  have hwrite : write = .next (s.mpReceive bytes loose) := exec_mpWrite_own s bytes loose
  rw [hwrite]
  refine ⟨fun hbusy => congrArg _ (State.mpReceive_busy hstarted hbusy bytes loose), fun hidle => ?_,
    fun addr haddr => exec_mpWrite_other haddr bytes loose⟩
  rw [State.mpReceive_idle hstarted hidle]
  refine ⟨_, receivedBytes_cases bytes, fun hm => ?_, fun hm hr => ?_, fun hm hr => ?_⟩
  · rw [Port.judge_idle_malformed hidle hm]
  · rw [Port.judge_reset hm hr, Port.taken, ← hidle]
  · rw [Port.judge_idle_held hidle hm hr, Frame.spelled]

theorem exec_mpRead_own {s : State} (hs : s.started = true) {count : Nat} (hc : 1 ≤ count)
    (nackStop : Bool) : exec (.mpRead s.mpAddress count nackStop) s = .next (s.setPort 4
      { (s.port 4).afterRead (s.port 4).heldReply (if nackStop then count - 1 else 0) with
        sent := some (s.statusByte 4 ::
          padded (responseStream (s.port 4).heldReply) (count - 1)) }) := if_pos ⟨rfl, hs, hc⟩

theorem exec_mpRead_other {s : State} {addr : BitVec 7} (h : addr ≠ s.mpAddress) (count : Nat)
    (nackStop : Bool) : exec (.mpRead addr count nackStop) s = .next s := if_neg fun ⟨haddr, _⟩ => h haddr

/-- The bytes read after the status byte reach the CRC, and the read ended as R167 asks. -/
theorem Reply.readLength_le_iff (r : Reply) (count : Nat) (nackStop : Bool) :
    r.readLength ≤ (if nackStop then count - 1 else 0) ↔
      nackStop = true ∧ r.bytes.length + 3 ≤ count := by
  unfold Reply.readLength
  cases nackStop <;> simp; omega

/-- Settles O10: the stream is that of a READ after the status byte, and its end consumes the response. -/
theorem managementReadConsumesAWholeResponse : Obligations.ManagementReadConsumesAWholeResponse := by
  rintro s x count nackStop rfl hstarted hcount read
  have hread := exec_mpRead_own hstarted hcount nackStop
  refine ⟨fun r hx => hread.trans ?_, fun hx => hread.trans ?_,
    fun addr haddr => exec_mpRead_other haddr count nackStop⟩
  · rw [Port.heldReply_ready hx, Port.afterRead_ready hx]
    simp only [Reply.readLength_le_iff]
    rfl
  · rw [Port.heldReply_none hx, Port.afterRead_none]
    rfl

/-! ### RESET PORT (R165, R166, R169) -/

theorem exec_resetPort_agent (s : State) (p : AgentPort) : exec (.resetPort (agentIx p)) s =
    .next (s.riseCommand (agentIx p) (typeCommand :: resetPortFrame.bytes) 0) := by
  have hp : agentIx p ≠ mpIx := by
    revert p
    decide
  exact if_neg hp

/-- A RESET PORT frame with arguments reaches the arbiter (R165, R169 step 3). -/
theorem exec_resetPortBadArg_own {s : State} {p : PortIx} {args : List Byte}
    (h : s.nextTake = some (p, ⟨Code.resetPort, args⟩)) (hargs : args ≠ []) :
    exec .resetPortBadArg s = .next (s.answer p Code.resetPort .badArg []) :=
  congrArg _ (State.take_own h (by simp [hargs]) _)

/-- Settles O11: the frame as sent is a good RESET PORT frame, which a port takes as it judges it. -/
theorem resetPortIsTakenAtThePort : Obligations.ResetPortIsTakenAtThePort := by
  refine ⟨fun s p u hu hjudged hsending => ?_, fun s p u h hs => ?_, fun s hstarted hidle => ?_,
    fun s hstarted hbusy => ?_, fun s p args hnext hargs => exec_resetPortBadArg_own hnext hargs⟩
  · rw [exec_resetPort_agent, State.riseCommand_command hu hjudged hsending,
      Port.judge_reset resetPortFrame_good resetPortFrame_resets]
    rfl
  · rw [exec_resetPort_agent, State.riseCommand_typed (.inl h) hs (by decide)]
  · refine congrArg Host.Outcome.next ((State.mpReceive_idle hstarted hidle resetPortFrame.bytes 0).trans ?_)
    rw [receivedBytes_short (by decide), Port.judge_reset resetPortFrame_good resetPortFrame_resets,
      Port.taken, ← hidle]
    rfl
  · exact congrArg Host.Outcome.next (State.mpReceive_busy hstarted hbusy resetPortFrame.bytes 0)

end Sys2Proof.Machine
end

section
/-! SUPPORT. The arbiter: the port that it takes next, the rows of the command table with the checks of
R169, and what a command leaves of the ports and of the queue of events. -/

namespace Sys2Proof.Machine

/-! ### The search in rotation (R168) -/

/-- A search over slots in ascending order stops at the first that answers. -/
theorem findSome?_finRange_iff {β : Type} {n : Nat} {g : Fin n → Option β} {b : β} :
    (List.finRange n).findSome? g = some b ↔ ∃ k, g k = some b ∧ ∀ j < k, g j = none := by
  have hsorted := List.pairwise_lt_finRange n
  rw [List.findSome?_eq_some_iff]
  constructor
  · rintro ⟨before, k, after, hsplit, hk, hnone⟩
    rw [hsplit, List.pairwise_append, List.pairwise_cons] at hsorted
    obtain ⟨-, ⟨hafter, -⟩, -⟩ := hsorted
    refine ⟨k, hk, fun j hj => ?_⟩
    have hmem : j ∈ before ++ k :: after := hsplit ▸ List.mem_finRange j
    rcases List.mem_append.1 hmem with hb | hc
    · exact hnone j hb
    · rcases List.mem_cons.1 hc with rfl | ha
      · exact absurd hj (lt_irrefl j)
      · exact absurd hj (lt_asymm (hafter j ha))
  · rintro ⟨k, hk, hnone⟩
    obtain ⟨before, after, hsplit⟩ := List.append_of_mem (List.mem_finRange k)
    rw [hsplit, List.pairwise_append] at hsorted
    obtain ⟨-, -, hbefore⟩ := hsorted
    exact ⟨before, k, after, hsplit, hk, fun j hj => hnone j (hbefore j hj k List.mem_cons_self)⟩

theorem rotation_eq_map (last : PortIx) :
    rotation last = (List.finRange 5).map fun k => last + 1 + k := by
  revert last
  decide

theorem mem_rotation (last p : PortIx) : p ∈ rotation last := by
  revert last p
  decide

theorem Port.heldFrame_eq_none_iff {x : Port} : x.heldFrame = none ↔ ∀ f, x.state ≠ .pending f := by
  simp only [Option.eq_none_iff_forall_ne_some, ne_eq, Port.heldFrame_iff]

theorem State.nextTake_none_iff {s : State} :
    s.nextTake = none ↔ ∀ p f, (s.port p).state ≠ .pending f := by
  simp only [State.nextTake, List.findSome?_eq_none_iff, mem_rotation, Option.map_eq_none_iff,
    Port.heldFrame_eq_none_iff, forall_const]

theorem State.nextTake_some_iff {s : State} {p : PortIx} {f : Frame} : s.nextTake = some (p, f) ↔
    (s.port p).state = .pending f ∧ ∃ k : Fin 5, p = s.lastServed + 1 + k ∧
      ∀ j : Fin 5, j < k → ∀ g, (s.port (s.lastServed + 1 + j)).state ≠ .pending g := by
  rw [State.nextTake, rotation_eq_map, List.findSome?_map, findSome?_finRange_iff]
  simp only [Function.comp_apply, Option.map_eq_some_iff, Option.map_eq_none_iff, Port.heldFrame_iff,
    Port.heldFrame_eq_none_iff, Prod.mk.injEq]
  constructor
  · rintro ⟨k, ⟨g, hg, rfl, rfl⟩, hnone⟩
    exact ⟨hg, k, rfl, hnone⟩
  · rintro ⟨hf, k, rfl, hnone⟩
    exact ⟨k, ⟨f, hf, rfl, rfl⟩, hnone⟩

/-! ### The rows that the arbiter takes (11.3, R169) -/

/-- A row of the command table: its code, the frames that are its own, whether it is a management
command, its argument length, and what it does when the checks of R169 pass. -/
structure Row where
  code : Byte
  takes : Frame → Bool
  management : Bool
  len : Nat
  body : PortIx → List Byte → State → Answer

/-- The row of a code that no other row shares. -/
def Row.ofCode (code : Byte) (management : Bool) (len : Nat)
    (body : PortIx → List Byte → State → Answer) : Row :=
  { code := code, takes := fun f => f.code = code, management := management, len := len, body := body }

/-- The row of each event in which the arbiter takes a command. -/
def arbiterRow : Instr → Option Row
  | .openSession => some (.ofCode Code.openSession false 7 openSession)
  | .keepalive => some (.ofCode Code.keepalive false 3 keepalive)
  | .closeSession => some (.ofCode Code.closeSession false 3 closeSession)
  | .acquire => some (.ofCode Code.acquire false 10 acquire)
  | .release => some (.ofCode Code.release false 6 release)
  | .renew => some (.ofCode Code.renew false 6 renew)
  | .queryLease => some (.ofCode Code.queryLease false 6 queryLease)
  | .queryResource => some (.ofCode Code.queryResource false 4 queryResource)
  | .readClock => some (.ofCode Code.readClock false 0 readClock)
  | .fetchNotice => some (.ofCode Code.fetchNotice false 3 fetchNotice)
  | .ackNotice => some (.ofCode Code.ackNotice false 7 ackNotice)
  | .defineResource => some (.ofCode Code.defineResource true 13 defineResource)
  | .amendResource => some (.ofCode Code.amendResource true 14 amendResource)
  | .deleteResource => some (.ofCode Code.deleteResource true 4 deleteResource)
  | .forceRevoke lines => some (.ofCode Code.forceRevoke true 4 (forceRevoke lines))
  | .clearFenceAccept =>
    some
      { code := Code.clearFence, management := true, len := 5, body := clearFenceAccept
        takes := fun f => f.code = Code.clearFence && argByte f.args 4 ≠ 1 }
  | .clearFenceRetry lines =>
    some
      { code := Code.clearFence, management := true, len := 5, body := clearFenceRetry lines
        takes := fun f => f.code = Code.clearFence && argByte f.args 4 = 1 }
  | .clockStart => some (.ofCode Code.clockStart true 0 clockStart)
  | .clockStop => some (.ofCode Code.clockStop true 0 clockStop)
  | .setClock => some (.ofCode Code.setClock true 5 setClock)
  | .purgeSession lines => some (.ofCode Code.purgeSession true 1 (purgeSession lines))
  | .setProfile => some (.ofCode Code.setProfile true 8 setProfile)
  | .setBus => some (.ofCode Code.setBus true 1 setBus)
  | .setLine => some (.ofCode Code.setLine true 3 setLine)
  | .setThreshold => some (.ofCode Code.setThreshold true 2 setThreshold)
  | .readAlerts => some (.ofCode Code.readAlerts true 1 readAlerts)
  | .ackAlert => some (.ofCode Code.ackAlert true 2 ackAlert)
  | .warmReset lines => some (.ofCode Code.warmReset true 0 (warmReset lines))
  | .resetPortBadArg =>
    some
      { code := Code.resetPort, management := false, len := 0, body := fun _ _ s => s.refuse .badArg
        takes := fun f => f.code = Code.resetPort && !f.args.isEmpty }
  | _ => none

/-- What the arbiter does at a row: the frame is checked, and the answer is left in its port. -/
def Row.run (r : Row) (s : State) : State := s.take r.takes (checked r.management r.len r.body)

/-- Two bodies that agree on the row's own frames. -/
theorem State.take_congr {s : State} {row : Frame → Bool}
    {body other : PortIx → List Byte → State → Answer}
    (h : ∀ p f, row f = true → body p f.args s = other p f.args s) :
    s.take row body = s.take row other := by
  unfold State.take
  split
  · rfl
  · next p f _ =>
    dsimp only
    split
    · next hf => rw [h p f hf]
    · rfl

/-- The three checks stand in the meaning of every row; CLOCK STOP waits besides while a mark is due, when
it is the command that would stop the clock (log 3). -/
theorem exec_row {c : Instr} {r : Row} (h : arbiterRow c = some r) (s : State) :
    exec c s = .next (r.run s) ∨
      (c = .clockStop ∧ s.markDue = true ∧ s.stopIsNext = true ∧ exec c s = .next s) := by
  cases c with
  | clockStop =>
    cases h
    by_cases hwait : (s.markDue && s.stopIsNext) = true
    · obtain ⟨hdue, hstop⟩ := Bool.and_eq_true_iff.1 hwait
      exact .inr ⟨rfl, hdue, hstop, if_pos hwait⟩
    · exact .inl (if_neg hwait)
  | resetPortBadArg =>
    cases h
    refine .inl (congrArg _ (State.take_congr fun p f hf => ?_))
    have hargs : f.args.length ≠ 0 := by simpa using (Bool.and_eq_true_iff.1 hf).2
    exact (checked_badArg (management := false) nofun hargs _ s).symm
  | _ => cases h <;> exact .inl rfl

/-- The rows have the lengths and the kinds of 11.3. -/
theorem arbiterRow_listed {c : Instr} {r : Row} (h : arbiterRow c = some r) :
    (r.code, r.len, r.management) ∈ commandTable := by
  cases c <;> cases h <;> exact of_decide_eq_true rfl

theorem commandTable_unique {code : Byte} {len len' : Nat} {management management' : Bool}
    (h : (code, len, management) ∈ commandTable) (h' : (code, len', management') ∈ commandTable) :
    len = len' ∧ management = management' := by
  have hunique : ∀ a ∈ commandTable, ∀ b ∈ commandTable, a.1 = b.1 → a = b := by decide
  have := hunique _ h _ h' rfl
  simpa using this

theorem arbiterRow_code {c : Instr} {r : Row} (h : arbiterRow c = some r) {f : Frame}
    (hf : r.takes f = true) : f.code = r.code := by
  cases c <;> cases h <;> simp_all [Row.ofCode]

/-- A row takes the frames whose event it is. -/
theorem Frame.event_of_takes {c : Instr} {r : Row} (h : arbiterRow c = some r) {f : Frame}
    (hf : r.takes f = true) : ∃ lines, f.event lines = c := by
  obtain ⟨code, args⟩ := f
  have hcode : code = r.code := arbiterRow_code h hf
  cases c with
  | clearFenceAccept =>
    cases h
    subst hcode
    have haction : argByte args 4 ≠ 1 := by simpa using hf
    exact ⟨⟨true, true⟩, if_neg haction⟩
  | clearFenceRetry lines =>
    cases h
    subst hcode
    have haction : argByte args 4 = 1 := by simpa using hf
    exact ⟨lines, if_pos haction⟩
  | forceRevoke lines | purgeSession lines | warmReset lines =>
    cases h
    subst hcode
    exact ⟨lines, rfl⟩
  | _ =>
    cases h <;>
    · subst hcode
      exact ⟨⟨true, true⟩, rfl⟩

theorem Frame.event_unknown {f : Frame} (h : f.code ∉ commandCodes) (lines : BusLines) :
    f.event lines = .unknownCommand := by
  simp only [commandCodes, List.mem_cons, List.not_mem_nil, or_false, not_or] at h
  simp only [Frame.event, h, if_false]

/-- The event of a frame with a command code has a row, which takes the frame: all but RESET PORT without
arguments, which is taken at the port (R165). -/
theorem Frame.event_row {f : Frame} (hcode : f.code ∈ commandCodes)
    (hreset : ¬ (f.code = Code.resetPort ∧ f.args = [])) (lines : BusLines) :
    ∃ r, arbiterRow (f.event lines) = some r ∧ r.takes f = true := by
  obtain ⟨code, args⟩ := f
  fin_cases hcode
  -- The rows that take every frame of their code; RESET PORT and CLEAR FENCE are left.
  all_goals try exact ⟨_, rfl, rfl⟩
  · have hargs : (!args.isEmpty) = true := by simpa using fun h => hreset ⟨rfl, h⟩
    exact ⟨_, rfl, Bool.and_eq_true_iff.2 ⟨rfl, hargs⟩⟩
  · by_cases haction : argByte args 4 = 1
    · exact ⟨_, (congrArg arbiterRow (if_pos haction)).trans rfl,
        Bool.and_eq_true_iff.2 ⟨rfl, decide_eq_true haction⟩⟩
    · exact ⟨_, (congrArg arbiterRow (if_neg haction)).trans rfl,
        Bool.and_eq_true_iff.2 ⟨rfl, decide_eq_true haction⟩⟩

/-- The event of a frame with a command code has a row, whether or not that row takes the frame. -/
theorem Frame.event_has_row {f : Frame} (hcode : f.code ∈ commandCodes) (lines : BusLines) :
    ∃ r, arbiterRow (f.event lines) = some r := by
  by_cases hreset : f.code = Code.resetPort ∧ f.args = []
  · obtain ⟨code, args⟩ := f
    obtain ⟨rfl, -⟩ : code = Code.resetPort ∧ args = [] := hreset
    exact ⟨_, rfl⟩
  · obtain ⟨r, hr, -⟩ := Frame.event_row hcode hreset lines
    exact ⟨r, hr⟩

/-! ### Frames refused (R169) -/

theorem commandTable_codes : commandTable.map Prod.fst = commandCodes := rfl

theorem Row.run_own {r : Row} {s : State} {p : PortIx} {f : Frame} (hnext : s.nextTake = some (p, f))
    (hf : r.takes f = true) {a : Answer} (ha : checked r.management r.len r.body p f.args s = a) :
    r.run s = a.state.answer p f.code a.status a.fields := by
  rw [Row.run, State.take_own hnext hf, ha]

theorem Row.run_other {r : Row} {s : State} (h : ∀ p f, s.nextTake = some (p, f) → r.takes f = false) :
    r.run s = s := State.take_other h _

theorem State.stopIsNext_own {s : State} {p : PortIx} {f : Frame} (hnext : s.nextTake = some (p, f))
    (h : s.stopIsNext = true) : p = 4 ∧ f.code = Code.clockStop ∧ f.args = [] := by
  simpa [State.stopIsNext, hnext, and_assoc] using h

theorem exec_unknownCommand_own {s : State} {p : PortIx} {f : Frame} (hnext : s.nextTake = some (p, f))
    (h : f.code ∉ commandCodes) :
    exec .unknownCommand s = .next (s.answer p f.code .unknownCommand []) :=
  congrArg _ (State.take_own hnext (by simpa using h) _)

/-- A frame that step 2 or step 3 of R169 refuses does not wait for a mark: it would not stop the clock. -/
theorem exec_row_refused {c : Instr} {r : Row} (hc : arbiterRow c = some r) {s : State} {p : PortIx}
    {f : Frame} (hnext : s.nextTake = some (p, f)) (hf : r.takes f = true)
    (h : (r.management = true ∧ p ≠ 4) ∨ f.args.length ≠ r.len) : exec c s = .next (r.run s) := by
  rcases exec_row hc s with hrun | ⟨rfl, -, hstop, -⟩
  · exact hrun
  · cases hc
    obtain ⟨hp, -, hargs⟩ := State.stopIsNext_own hnext hstop
    rcases h with ⟨-, hother⟩ | hlen
    · exact absurd hp hother
    · exact absurd (congrArg List.length hargs) hlen

/-- The event of a frame that step 2 or step 3 of R169 refuses, whatever the command's own body. -/
theorem exec_event_refused {s : State} {p : PortIx} {f : Frame} (hnext : s.nextTake = some (p, f))
    {len : Nat} {management : Bool} (hlisted : (f.code, len, management) ∈ commandTable)
    (hrefused : (management = true ∧ p ≠ 4) ∨ f.args.length ≠ len) {status : Status}
    (hchecked : ∀ body, checked management len body p f.args s = s.refuse status) (lines : BusLines) :
    exec (f.event lines) s = .next (s.answer p f.code status []) := by
  have hcode : f.code ∈ commandCodes := commandTable_codes ▸ List.mem_map_of_mem hlisted
  have hreset : ¬ (f.code = Code.resetPort ∧ f.args = []) := by
    rintro ⟨hc, hargs⟩
    have hown : (Code.resetPort, 0, false) ∈ commandTable := by decide
    obtain ⟨rfl, rfl⟩ := commandTable_unique (hc ▸ hlisted) hown
    simp [hargs] at hrefused
  obtain ⟨r, hr, hf⟩ := Frame.event_row hcode hreset lines
  obtain ⟨rfl, rfl⟩ := commandTable_unique (arbiterRow_code hr hf ▸ hlisted) (arbiterRow_listed hr)
  rw [exec_row_refused hr hnext hf hrefused, Row.run_own hnext hf (hchecked r.body)]
  rfl

/-- Settles O13: the event of a frame is a row of the command table, or UNKNOWN_COMMAND, and the checks
stand before the row's own body. -/
theorem framesAreCheckedBeforeEveryCommand : Obligations.FramesAreCheckedBeforeEveryCommand := by
  intro s p f lines hnext
  rw [commandTable_codes]
  refine ⟨fun hcode => ⟨Frame.event_unknown hcode lines, exec_unknownCommand_own hnext hcode⟩,
    fun len management hlisted => ⟨?_, fun hallowed hlen => ?_⟩⟩
  · rintro rfl hp
    exact exec_event_refused hnext hlisted (.inl ⟨rfl, hp⟩)
      (fun body => checked_denied hp len body f.args s) lines
  · exact exec_event_refused hnext hlisted (.inr hlen)
      (fun body => checked_badArg hallowed hlen body s) lines

/-! ### What commands leave of the ports and of the queue of events -/

/-- The ports and the queue of events, which no command but WARM RESET reaches. -/
def State.channels (s : State) : Vector Port 5 × List Instr := (s.ports, s.pending)

theorem State.channels_of_rest {s t : State} (h : t.rest = s.rest) : t.channels = s.channels := by
  obtain ⟨-, -, -, -, hports, -, -, -, -, -, hpending⟩ := (s.rest_eq_iff t).1 h
  simp only [State.channels, hports, hpending]

theorem State.port_of_channels {s t : State} (h : t.channels = s.channels) (p : PortIx) :
    t.port p = s.port p :=
  congrArg (fun v : Vector Port 5 × List Instr => v.1.get p) h

theorem State.pending_of_channels {s t : State} (h : t.channels = s.channels) : t.pending = s.pending :=
  congrArg Prod.snd h

section Bodies

variable (p : PortIx) (args : List Byte) (s : State)

theorem openSession_channels : (openSession p args s).state.channels = s.channels := by
  unfold openSession
  split
  · rfl
  · split <;> rfl

theorem keepalive_channels : (keepalive p args s).state.channels = s.channels := by
  unfold keepalive
  split <;> rfl

theorem closeSession_channels : (closeSession p args s).state.channels = s.channels := by
  unfold closeSession
  split
  · rfl
  · split
    · rfl
    · exact State.channels_of_rest ((State.rest_setSession _ _ _).trans (State.rest_releaseAll _ _))

theorem acquire_channels : (acquire p args s).state.channels = s.channels := by
  unfold acquire
  dsimp only
  split
  · split
    · rfl
    · split
      · rfl
      · split
        · rfl
        · split
          · exact State.channels_of_rest (s.rest_reportSpent _)
          · split
            · rfl
            · split
              · rfl
              · split
                · exact State.channels_of_rest (State.rest_allocate _ _ _)
                · split
                  · rfl
                  · exact State.channels_of_rest (State.rest_allocate _ _ _)
  · rfl

theorem release_channels : (release p args s).state.channels = s.channels := by
  unfold release
  split
  · rfl
  · exact State.channels_of_rest (s.rest_freeRecord _)

theorem renew_channels : (renew p args s).state.channels = s.channels := by
  unfold renew
  split
  · rfl
  · split
    · rfl
    · rfl
    · split
      · rfl
      · split <;> rfl

theorem queryLease_channels : (queryLease p args s).state.channels = s.channels := by
  unfold queryLease
  split <;> rfl

theorem queryResource_channels : (queryResource p args s).state.channels = s.channels := by
  unfold queryResource
  split <;> rfl

theorem fetchNotice_channels : (fetchNotice p args s).state.channels = s.channels := by
  unfold fetchNotice
  split
  · rfl
  · split
    · rfl
    · dsimp only
      split
      · exact State.channels_of_rest (s.rest_retire _ _)
      · rfl

theorem State.channels_acknowledge {s t : State} (ht : t.rest = s.rest) (i : SessSlot) (x : Session)
    (kind : Option Byte) : (s.acknowledge i x kind t).state.channels = s.channels := by
  unfold State.acknowledge
  split
  · rfl
  · split
    · rfl
    · exact State.channels_of_rest ht

theorem ackNotice_channels : (ackNotice p args s).state.channels = s.channels := by
  unfold ackNotice
  split
  · split
    · rfl
    · exact State.channels_acknowledge (s.rest_retireRecord _) _ _ _
  · split
    · rfl
    · split
      · exact State.channels_acknowledge (s.rest_retireSession _) _ _ _
      · rfl

theorem defineResource_channels : (defineResource p args s).state.channels = s.channels := by
  unfold defineResource
  split
  · rfl
  · split
    · rfl
    · split
      · rfl
      · split
        · rfl
        · split <;> rfl

theorem amendResource_channels : (amendResource p args s).state.channels = s.channels := by
  unfold amendResource
  split
  · rfl
  · split
    · rfl
    · split_ifs <;> rfl

theorem deleteResource_channels : (deleteResource p args s).state.channels = s.channels := by
  unfold deleteResource
  split
  · rfl
  · split <;> rfl

theorem forceRevoke_channels (lines : BusLines) :
    (forceRevoke lines p args s).state.channels = s.channels := by
  unfold forceRevoke
  split
  · rfl
  · split
    · rfl
    · exact State.channels_of_rest (foldl_keeps State.rest _ (fun s l => s.rest_revokeEnding l _ lines) _ s)

theorem clearFenceAccept_channels : (clearFenceAccept p args s).state.channels = s.channels := by
  unfold clearFenceAccept
  split
  · rfl
  · split
    · rfl
    · split
      · rfl
      · exact State.channels_of_rest ((State.rest_grantCheck _ _).trans (s.rest_setEntry _ _))

theorem clearFenceRetry_channels (lines : BusLines) :
    (clearFenceRetry lines p args s).state.channels = s.channels := by
  unfold clearFenceRetry
  split
  · rfl
  · split
    · rfl
    · split
      · rfl
      · exact State.channels_of_rest ((State.rest_appendJob _ _ lines).trans (s.rest_setEntry _ _))

theorem setClock_channels : (setClock p args s).state.channels = s.channels := by
  unfold setClock
  split
  · rfl
  · split_ifs <;> rfl

theorem purgeSession_channels (lines : BusLines) :
    (purgeSession lines p args s).state.channels = s.channels := by
  unfold purgeSession
  split
  · rfl
  · split
    · rfl
    · split
      · rfl
      · exact State.channels_of_rest ((State.rest_setSession _ _ _).trans (s.rest_lapse _ _ _ lines))

theorem setProfile_channels : (setProfile p args s).state.channels = s.channels := by
  unfold setProfile
  split
  · split <;> rfl
  · split <;> rfl
  · rfl

theorem setBus_channels : (setBus p args s).state.channels = s.channels := by
  unfold setBus
  split <;> rfl

theorem setLine_channels : (setLine p args s).state.channels = s.channels := by
  unfold setLine
  split <;> rfl

theorem setThreshold_channels : (setThreshold p args s).state.channels = s.channels := by
  unfold setThreshold
  split <;> rfl

theorem readAlerts_channels : (readAlerts p args s).state.channels = s.channels := by
  unfold readAlerts
  dsimp only
  split_ifs <;> rfl

theorem ackAlert_channels : (ackAlert p args s).state.channels = s.channels := by
  unfold ackAlert
  split
  · rfl
  · split_ifs <;> rfl

/-- WARM RESET reaches every port, but not the queue of events. -/
theorem warmReset_pending (lines : BusLines) : (warmReset lines p args s).state.pending = s.pending :=
  
  State.pending_of_channels (s := s.warmReset)
    (State.channels_of_rest (s.warmReset.rest_startAttempt lines))

/-- A command reaches the ports and the queue of events by its answer alone, but for WARM RESET. -/
theorem arbiterRow_channels {c : Instr} {r : Row} (h : arbiterRow c = some r)
    (hw : r.code ≠ Code.warmReset) : (r.body p args s).state.channels = s.channels := by
  cases c with
  | openSession => cases h; exact openSession_channels p args s
  | keepalive => cases h; exact keepalive_channels p args s
  | closeSession => cases h; exact closeSession_channels p args s
  | acquire => cases h; exact acquire_channels p args s
  | release => cases h; exact release_channels p args s
  | renew => cases h; exact renew_channels p args s
  | queryLease => cases h; exact queryLease_channels p args s
  | queryResource => cases h; exact queryResource_channels p args s
  | readClock => cases h; rfl
  | fetchNotice => cases h; exact fetchNotice_channels p args s
  | ackNotice => cases h; exact ackNotice_channels p args s
  | defineResource => cases h; exact defineResource_channels p args s
  | amendResource => cases h; exact amendResource_channels p args s
  | deleteResource => cases h; exact deleteResource_channels p args s
  | forceRevoke lines => cases h; exact forceRevoke_channels p args s lines
  | clearFenceAccept => cases h; exact clearFenceAccept_channels p args s
  | clearFenceRetry lines => cases h; exact clearFenceRetry_channels p args s lines
  | clockStart => cases h; rfl
  | clockStop => cases h; rfl
  | setClock => cases h; exact setClock_channels p args s
  | purgeSession lines => cases h; exact purgeSession_channels p args s lines
  | setProfile => cases h; exact setProfile_channels p args s
  | setBus => cases h; exact setBus_channels p args s
  | setLine => cases h; exact setLine_channels p args s
  | setThreshold => cases h; exact setThreshold_channels p args s
  | readAlerts => cases h; exact readAlerts_channels p args s
  | ackAlert => cases h; exact ackAlert_channels p args s
  | warmReset lines => cases h; exact absurd rfl hw
  | resetPortBadArg => cases h; rfl
  | _ => cases h

theorem arbiterRow_pending {c : Instr} {r : Row} (h : arbiterRow c = some r) :
    (r.body p args s).state.pending = s.pending := by
  by_cases hw : r.code = Code.warmReset
  · cases c with
    | warmReset lines => cases h; exact warmReset_pending p args s lines
    | _ => cases h <;> exact absurd hw (of_decide_eq_false rfl)
  · exact State.pending_of_channels (arbiterRow_channels p args s h hw)

end Bodies

/-- What holds of the state before a command and of the state that its body leaves holds after the checks
of R169 too, which refuse with no change. -/
theorem checked_keeps {β : Type} {view : State → β} {body : PortIx → List Byte → State → Answer}
    {p : PortIx} {args : List Byte} {s : State} (h : view (body p args s).state = view s)
    (management : Bool) (len : Nat) : view (checked management len body p args s).state = view s := by
  unfold checked
  split_ifs
  · rfl
  · rfl
  · exact h

/-! ### The frame taken is answered (R168) -/

theorem State.answer_ready (s : State) (p : PortIx) (code : Byte) (status : Status)
    (fields : List Byte) : ((s.answer p code status fields).port p).state = .ready ⟨code, status, fields⟩ :=
  congrArg Port.state (s.port_setPort_self p _)

theorem State.answer_other (s : State) {p q : PortIx} (h : q ≠ p) (code : Byte) (status : Status)
    (fields : List Byte) : (s.answer p code status fields).port q = s.port q :=
  (s.port_setPort p q _).trans (if_neg h)

/-- The event of the next frame answers it, and reaches no other port, but for WARM RESET. -/
theorem exec_event_answers {s : State} {p : PortIx} {f : Frame} (hnext : s.nextTake = some (p, f))
    (hreset : ¬ (f.code = Code.resetPort ∧ f.args = []))
    (hwait : ¬ (f.code = Code.clockStop ∧ s.markDue = true)) (lines : BusLines) :
    ∃ a : Answer, exec (f.event lines) s = .next (a.state.answer p f.code a.status a.fields) ∧
      (f.code ≠ Code.warmReset → a.state.channels = s.channels) := by
  by_cases hcode : f.code ∈ commandCodes
  · obtain ⟨r, hr, hf⟩ := Frame.event_row hcode hreset lines
    have hrcode := arbiterRow_code hr hf
    refine ⟨checked r.management r.len r.body p f.args s, ?_, fun hw =>
      checked_keeps (arbiterRow_channels p f.args s hr (hrcode ▸ hw)) r.management r.len⟩
    rcases exec_row hr s with hrun | ⟨-, hdue, hstop, -⟩
    · rw [hrun, Row.run_own hnext hf rfl]
    · obtain ⟨-, hclock, -⟩ := State.stopIsNext_own hnext hstop
      exact absurd ⟨hclock, hdue⟩ hwait
  · refine ⟨s.refuse .unknownCommand, ?_, fun _ => rfl⟩
    rw [Frame.event_unknown hcode]
    exact exec_unknownCommand_own hnext hcode

theorem exec_unknownCommand_other {s : State}
    (h : ∀ p f, s.nextTake = some (p, f) → f.code ∈ commandCodes) :
    exec .unknownCommand s = .next s :=
  congrArg _ (State.take_other (fun p f hnext => by simpa using h p f hnext) _)

theorem exec_row_other {c : Instr} {r : Row} (hc : arbiterRow c = some r) {s : State}
    (h : ∀ p f, s.nextTake = some (p, f) → r.takes f = false) : exec c s = .next s := by
  rcases exec_row hc s with hrun | ⟨-, -, -, hstay⟩
  · rw [hrun, Row.run_other h]
  · exact hstay

/-- A row of the table takes no frame but its own (log 2). -/
theorem exec_event_other {s : State} {g : Frame} {lines : BusLines}
    (h : ∀ p f other, s.nextTake = some (p, f) → g.event lines ≠ f.event other) :
    exec (g.event lines) s = .next s := by
  by_cases hcode : g.code ∈ commandCodes
  · obtain ⟨r, hr⟩ := Frame.event_has_row hcode lines
    refine exec_row_other hr fun p f hnext => Bool.eq_false_iff.2 fun hf => ?_
    obtain ⟨other, hevent⟩ := Frame.event_of_takes hr hf
    exact h p f other hnext hevent.symm
  · rw [Frame.event_unknown hcode] at h ⊢
    exact exec_unknownCommand_other fun p f hnext => by_contra fun hf =>
      h p f lines hnext (Frame.event_unknown hf lines).symm

/-- Settles O12: the search in rotation, the answer left in the port that it finds, and the rows that
stand still for a frame of another. -/
theorem arbiterServesThePortsInRotation : Obligations.ArbiterServesThePortsInRotation := by
  refine ⟨fun s => State.nextTake_none_iff, fun s p f => State.nextTake_some_iff,
    fun s p f lines hnext hreset hwait => ?_, ?_⟩
  · obtain ⟨a, hexec, hkept⟩ := exec_event_answers hnext hreset hwait lines
    exact ⟨_, _, hexec, State.answer_ready _ _ _ _ _, rfl, rfl, fun hw q hq =>
      (State.answer_other _ hq _ _ _).trans (State.port_of_channels (hkept hw) q)⟩
  · rintro s c ⟨g, lines, rfl⟩ h
    exact exec_event_other h

/-! ### Every event (95, R168) -/

/-- An outcome that is a next state with the queue of events as `s` has it. -/
def State.leavesQueue (s : State) (o : Host.Outcome State Fault Refusal) : Prop :=
  ∃ t, o = .next t ∧ t.pending = s.pending

theorem State.leavesQueue_next {s t : State} (h : t.pending = s.pending) : s.leavesQueue (.next t) :=
  ⟨t, rfl, h⟩

theorem State.leavesQueue_rest {s t : State} (h : t.rest = s.rest) : s.leavesQueue (.next t) :=
  s.leavesQueue_next (State.pending_of_channels (State.channels_of_rest h))

section Events

variable (s : State)

theorem State.pending_riseRead (p : PortIx) (clocked : Nat) :
    (s.riseRead p clocked).pending = s.pending := by
  unfold State.riseRead
  dsimp only
  split <;> rfl

theorem State.pending_riseCommand (p : PortIx) (mosi : List Byte) (loose : Nat) :
    (s.riseCommand p mosi loose).pending = s.pending := by
  unfold State.riseCommand
  dsimp only
  split
  · split <;> rfl
  · split_ifs
    · exact s.pending_riseRead p _
    all_goals rfl

theorem State.pending_mpReceive (bytes : List Byte) (loose : Nat) :
    (s.mpReceive bytes loose).pending = s.pending := by
  unfold State.mpReceive
  dsimp only
  split
  · split <;> rfl
  · rfl

theorem execCommandTransaction_leavesQueue (p : AgentPort) (phase : CommandPhase) :
    s.leavesQueue (execCommandTransaction p phase s) := by
  cases phase with
  | fall => exact State.leavesQueue_next rfl
  | rise mosi loose => exact State.leavesQueue_next (s.pending_riseCommand _ _ _)

theorem execReadTransaction_leavesQueue (p : AgentPort) (phase : ReadPhase) :
    s.leavesQueue (execReadTransaction p phase s) := by
  cases phase with
  | fall => exact State.leavesQueue_next rfl
  | typed => exact State.leavesQueue_next rfl
  | rise clocked => exact State.leavesQueue_next (s.pending_riseRead _ _)

theorem execMpWrite_leavesQueue (addr : BitVec 7) (bytes : List Byte) (loose : Nat) :
    s.leavesQueue (execMpWrite addr bytes loose s) := by
  unfold execMpWrite
  split
  · exact State.leavesQueue_next (s.pending_mpReceive _ _)
  · exact State.leavesQueue_next rfl

theorem execMpRead_leavesQueue (addr : BitVec 7) (count : Nat) (nackStop : Bool) :
    s.leavesQueue (execMpRead addr count nackStop s) := by
  unfold execMpRead
  dsimp only
  split <;> exact State.leavesQueue_next rfl

theorem execResetPort_leavesQueue (p : PortIx) : s.leavesQueue (execResetPort p s) := by
  unfold execResetPort
  split
  · exact State.leavesQueue_next (s.pending_mpReceive _ _)
  · exact State.leavesQueue_next (s.pending_riseCommand _ _ _)

theorem execTick_leavesQueue (periods : Nat) : s.leavesQueue (execTick periods s) := by
  unfold execTick
  split
  · exact State.leavesQueue_next rfl
  · split_ifs <;> exact State.leavesQueue_next rfl

theorem execWarnMarkReached_leavesQueue (l : LeaseSlot) : s.leavesQueue (execWarnMarkReached l s) := by
  unfold execWarnMarkReached
  split
  · exact State.leavesQueue_next rfl
  · split <;> exact State.leavesQueue_next rfl

theorem execHoldExpiry_leavesQueue (l : LeaseSlot) (lines : BusLines) :
    s.leavesQueue (execHoldExpiry l lines s) := by
  unfold execHoldExpiry
  split
  · exact State.leavesQueue_next rfl
  · split
    · exact State.leavesQueue_rest (s.rest_revokeEnding l _ lines)
    · exact State.leavesQueue_next rfl

theorem execWaitExpiry_leavesQueue (l : LeaseSlot) : s.leavesQueue (execWaitExpiry l s) := by
  unfold execWaitExpiry
  split
  · exact State.leavesQueue_next rfl
  · split
    · exact State.leavesQueue_rest ((State.rest_leaveQueue _ _ l).trans (s.rest_endRecord l _))
    · exact State.leavesQueue_next rfl

theorem execSessionWarning_leavesQueue (i : SessSlot) : s.leavesQueue (execSessionWarning i s) := by
  unfold execSessionWarning
  split
  · exact State.leavesQueue_next rfl
  · split <;> exact State.leavesQueue_next rfl

theorem execSessionLapse_leavesQueue (i : SessSlot) (lines : BusLines) :
    s.leavesQueue (execSessionLapse i lines s) := by
  unfold execSessionLapse
  split
  · exact State.leavesQueue_next rfl
  · split
    · exact State.leavesQueue_rest ((State.rest_setSession _ _ _).trans (s.rest_lapse i _ _ lines))
    · exact State.leavesQueue_next rfl

/-- A change of the bus or of the fence queue alone, and then a start on the bus. -/
theorem State.leavesQueue_started {u : State} (hu : u.rest = s.rest) (lines : BusLines) :
    s.leavesQueue (.next (u.startAttempt lines)) :=
  State.leavesQueue_rest ((u.rest_startAttempt lines).trans hu)

theorem execAttemptSuccess_leavesQueue (phase : AttemptPhase) :
    s.leavesQueue (execAttemptSuccess phase s) := by
  unfold execAttemptSuccess
  split
  · exact State.leavesQueue_next rfl
  · split
    · exact State.leavesQueue_next rfl
    · cases phase with
      | moved => dsimp only; split <;> exact State.leavesQueue_next rfl
      | ended lines =>
        dsimp only
        split
        · exact s.leavesQueue_started ((State.rest_settleHead _).trans (by rfl)) lines
        · exact State.leavesQueue_next rfl

theorem execAttemptNack_leavesQueue (at_ : Nat) (lines : BusLines) :
    s.leavesQueue (execAttemptNack at_ lines s) := by
  unfold execAttemptNack
  split
  · exact State.leavesQueue_next rfl
  · split
    · exact State.leavesQueue_rest (s.rest_failIdle _ lines)
    · exact State.leavesQueue_next rfl

theorem execReadBackMismatch_leavesQueue (b : Byte) (lines : BusLines) :
    s.leavesQueue (execReadBackMismatch b lines s) := by
  unfold execReadBackMismatch
  split
  · exact State.leavesQueue_next rfl
  · split
    · exact State.leavesQueue_rest (s.rest_failIdle _ lines)
    · exact State.leavesQueue_next rfl

theorem execStall_leavesQueue (at_ : Nat) : s.leavesQueue (execStall at_ s) := by
  unfold execStall
  split
  · exact State.leavesQueue_next rfl
  · dsimp only
    split_ifs
    · exact State.leavesQueue_next rfl
    · exact State.leavesQueue_rest (State.rest_failHead _)
    · exact State.leavesQueue_next rfl

theorem execRecoveryEnd_leavesQueue (pulses : Nat) (freed : Bool) (lines : BusLines) :
    s.leavesQueue (execRecoveryEnd pulses freed lines s) := by
  unfold execRecoveryEnd
  split
  · exact s.leavesQueue_started (by rfl) lines
  · exact State.leavesQueue_next rfl

theorem execRecoveryTimeout_leavesQueue (pulses : Nat) (lines : BusLines) :
    s.leavesQueue (execRecoveryTimeout pulses lines s) := by
  unfold execRecoveryTimeout
  split
  · exact s.leavesQueue_started (by rfl) lines
  · exact State.leavesQueue_next rfl

theorem execAbandonedAttemptEnd_leavesQueue (at_ : Nat) (lines : BusLines) :
    s.leavesQueue (execAbandonedAttemptEnd at_ lines s) := by
  unfold execAbandonedAttemptEnd
  split
  · exact State.leavesQueue_next rfl
  · split
    · exact s.leavesQueue_started (by rfl) lines
    · exact State.leavesQueue_next rfl

theorem execColdReset_leavesQueue (phase : ResetPhase) : s.leavesQueue (execColdReset phase s) := by
  cases phase <;> exact State.leavesQueue_next rfl

theorem execStartupComplete_leavesQueue : s.leavesQueue (execStartupComplete s) := by
  unfold execStartupComplete
  split <;> exact State.leavesQueue_next rfl

theorem State.pending_take {row : Frame → Bool} {body : PortIx → List Byte → State → Answer}
    (h : ∀ p args, (body p args s).state.pending = s.pending) : (s.take row body).pending = s.pending := by
  unfold State.take
  split
  · rfl
  · next p f _ =>
    dsimp only
    split
    · exact h p f.args
    · rfl

theorem exec_row_leavesQueue {c : Instr} {r : Row} (hc : arbiterRow c = some r) :
    s.leavesQueue (exec c s) := by
  rcases exec_row hc s with hrun | ⟨-, -, -, hstay⟩
  · rw [hrun]
    exact State.leavesQueue_next (s.pending_take fun p args =>
      checked_keeps (arbiterRow_pending p args s hc) r.management r.len)
  · rw [hstay]
    exact State.leavesQueue_next rfl

/-- The events in which the arbiter takes no command. -/
theorem exec_rowless_leavesQueue {c : Instr} (hc : arbiterRow c = none) : s.leavesQueue (exec c s) := by
  cases c with
  | commandTransaction p phase => exact execCommandTransaction_leavesQueue s p phase
  | readTransaction p phase => exact execReadTransaction_leavesQueue s p phase
  | mpWrite addr bytes loose => exact execMpWrite_leavesQueue s addr bytes loose
  | mpRead addr count nackStop => exact execMpRead_leavesQueue s addr count nackStop
  | resetPort p => exact execResetPort_leavesQueue s p
  | unknownCommand => exact State.leavesQueue_next (s.pending_take fun _ _ => rfl)
  | tick periods => exact execTick_leavesQueue s periods
  | warnMarkReached l => exact execWarnMarkReached_leavesQueue s l
  | holdExpiry l lines => exact execHoldExpiry_leavesQueue s l lines
  | waitExpiry l => exact execWaitExpiry_leavesQueue s l
  | sessionWarning i => exact execSessionWarning_leavesQueue s i
  | sessionLapse i lines => exact execSessionLapse_leavesQueue s i lines
  | attemptSuccess phase => exact execAttemptSuccess_leavesQueue s phase
  | attemptNack at_ lines => exact execAttemptNack_leavesQueue s at_ lines
  | readBackMismatch b lines => exact execReadBackMismatch_leavesQueue s b lines
  | stall at_ => exact execStall_leavesQueue s at_
  | recoveryEnd pulses freed lines => exact execRecoveryEnd_leavesQueue s pulses freed lines
  | recoveryTimeout pulses lines => exact execRecoveryTimeout_leavesQueue s pulses lines
  | abandonedAttemptEnd at_ lines => exact execAbandonedAttemptEnd_leavesQueue s at_ lines
  | coldReset phase => exact execColdReset_leavesQueue s phase
  | startupComplete => exact execStartupComplete_leavesQueue s
  | _ => cases hc

end Events

/-- Settles O2: a row of the arbiter leaves its answer in a port alone, and every other event is
considered by itself. -/
theorem everyEventAnswersAndLeavesTheQueue : Obligations.EveryEventAnswersAndLeavesTheQueue := by
  intro c s
  cases hc : arbiterRow c with
  | some r => exact exec_row_leavesQueue s hc
  | none => exact exec_rowless_leavesQueue s hc

end Sys2Proof.Machine
end

section
/-! SUPPORT. The start-up time: the addresses that the management port does not acknowledge, and the
transactions at the agent ports that are not judged. -/

namespace Sys2Proof.Machine

/-! ### STARTUP_COMPLETE (R173, R178) -/

theorem exec_startupComplete_high {s : State} (h : s.resetLow = false) :
    exec .startupComplete s = .next { s with started := true } :=
  if_neg (Bool.eq_false_iff.1 h)

/-- The start-up time runs from the rise of RESETN. -/
theorem exec_startupComplete_low {s : State} (h : s.resetLow = true) :
    exec .startupComplete s = .next s := if_pos h

/-! ### In the start-up time (R178) -/

section Startup

variable {s : State} (hs : s.started = false)
include hs

theorem State.mpReceive_startup (bytes : List Byte) (loose : Nat) :
    s.mpReceive bytes loose = { s with mpAcknowledged := 0 } :=
  if_neg (Bool.eq_false_iff.1 hs)

theorem exec_mpRead_startup (addr : BitVec 7) (count : Nat) (nackStop : Bool) :
    exec (.mpRead addr count nackStop) s = .next s :=
  if_neg fun ⟨_, hstarted, _⟩ => Bool.eq_false_iff.1 hs hstarted

end Startup

/-! ### Transactions that are not judged (R173) -/

section Unjudged

variable {s : State} {p : AgentPort} {u : Transaction} (h : s.transacts (agentIx p) u)
  (hu : u.judged = false)
include h hu

/-- A READ may have fixed what it sends or not. -/
theorem exec_readRise_unjudged (clocked : Nat) :
    exec (.readTransaction p (.rise clocked)) s = .next (s.setPort (agentIx p)
      { s.port (agentIx p) with transaction := none, sent := none }) :=
  congrArg _ (State.riseRead_unjudged h hu clocked)

theorem exec_commandRise_read_unjudged (bytes : List Byte) (loose : Nat) :
    exec (.commandTransaction p (.rise (typeRead :: bytes) loose)) s = .next (s.setPort (agentIx p)
      { s.port (agentIx p) with transaction := none, sent := none }) :=
  congrArg _ ((s.riseCommand_read _ bytes loose).trans (State.riseRead_unjudged h hu _))

end Unjudged

/-- Settles O4: the end of the start-up time, the events that meet the part in it, and the rise of a
transaction that is not judged. -/
theorem portsAcceptNothingBeforeStartupCompletes :
    Obligations.PortsAcceptNothingBeforeStartupCompletes := by
  refine ⟨fun s => exec_startupComplete_high, fun s => exec_startupComplete_low, fun s hs => ?_,
    fun s p u h hu => ?_⟩
  · refine ⟨fun bytes loose => ?_, ?_, exec_mpRead_startup hs s.mpAddress, fun p hnone => ?_⟩
    · rw [exec_mpWrite_own, State.mpReceive_startup hs]
    · exact congrArg _ (State.mpReceive_startup hs resetPortFrame.bytes 0)
    · have hfall := State.fall_first hnone
      exact ⟨s.beginTransaction (agentIx p), hs, rfl, congrArg _ hfall, congrArg _ hfall⟩
  · refine ⟨exec_readRise_unjudged h hu, exec_commandRise_read_unjudged h hu, fun hsending => ?_⟩
    have hrise := State.riseCommand_unjudged h hu hsending
    refine ⟨fun mosi loose => congrArg _ (hrise mosi loose), ?_⟩
    rw [exec_resetPort_agent, hrise]

end Sys2Proof.Machine
end

section
/-! SUPPORT. A step by the form of the queue of events. -/

namespace Sys2Proof.Machine

/-! ### The queue of events (log 1) -/

theorem step_of_pending_nil {s : State} (h : s.pending = []) : step s = .next s := by
  simp only [step, h]

theorem step_of_pending_cons {s : State} {c : Instr} {rest : List Instr}
    (h : s.pending = c :: rest) : step s = exec c { s with pending := rest } := by
  simp only [step, h]

/-- Settles O1: the state whose queue is `c :: rest` differs from `s` in its queue alone, so the queue's
rest put there is the queue's rest put in `s`. -/
theorem stepTakesTheFrontOfTheQueue : Obligations.StepTakesTheFrontOfTheQueue :=
  ⟨fun c rest s => step_of_pending_cons (s := { s with pending := c :: rest }) rfl,
    fun _ => step_of_pending_nil⟩

end Sys2Proof.Machine
end
